-- ==== Sys2Proof/Word.lean ====
section
/-! DEFINITION. The one word type of the hardware: the byte (spec 00_scope.md R13: every byte is 8 bits, bit 7 the most
significant, all values unsigned). The operators of R14 are Lean's own on `BitVec 8`: `|||`, `&&&`, `~~~`, `<<<`, `>>>`
(logical) and `+`, each keeping the low 8 bits. -/

namespace Sys2Proof

/-- A byte (R13). -/
abbrev Byte := BitVec 8

end Sys2Proof
end

