-- ==== Sys2Proof/Config.lean ====
section
/-! DEFINITION. What is fixed for one block and what the spec leaves free: the configuration (00_scope.md R10, R11), the
type of the transport's answers over any error type, the named delays, and the free values (constants without a body, of which
nothing can be proved). The VALUES of the defaults stand in Machine/Defaults.lean. -/

namespace Sys2Proof

/-- The bus address `ADDR`: an opaque value of open width `ADDR_W` (R10, R11; 92_eei_decisions.md D16). -/
structure BusAddress where
  width : Nat
  value : BitVec width
  deriving DecidableEq, Repr, Inhabited

/-- The error type at which the host's names (`exec`, `step`, `State.reset`) are taken. R11 makes the type `TErr` of the
transport's error value an argument of the model, and it is one: every type below that holds an error has it as its
parameter `E`, this being only the default. DESIGN CHOICE (log 9): numbers stand for error values here. -/
structure TErr where
  code : Nat
  deriving DecidableEq, Repr, Inhabited

/-- What the transport answers to one bus write (R7): `ok` or `fail(e)`, with `e` of the opaque type argument `TErr`
(R11, R231; D21), here `E`. -/
inductive Answer (E : Type) where
  | ok
  | fail (e : E)
  deriving DecidableEq, Repr, Inhabited

/-- The eight named delays (70_reset_and_hazards.md R280). -/
inductive Delay where
  | tPower | tIdle | tInit1 | tInit2 | tInit3 | tPulse | tSettle | tLong
  deriving DecidableEq, Repr

/-- The flag constants inside command bytes, parameters of the model (R11, 30_encoding.md R92; D19). -/
structure FlagConstants where
  displayOn : Byte
  cursorOn : Byte
  blinkOn : Byte
  entryLeft : Byte
  entryShiftIncrement : Byte
  displayMove : Byte
  moveRight : Byte
  moveLeft : Byte
  mode4Bit : Byte
  line2 : Byte
  line1 : Byte
  dots5x10 : Byte
  dots5x8 : Byte
  deriving DecidableEq, Repr

/-- The nominal value of each delay in nanoseconds: configuration that no rule depends on (R11, R280; D13). -/
structure NominalDelays where
  tPower : Nat
  tIdle : Nat
  tInit1 : Nat
  tInit2 : Nat
  tInit3 : Nat
  tPulse : Nat
  tSettle : Nat
  tLong : Nat
  deriving DecidableEq, Repr

/-- DisplayConfig (R10, 10_state.md R20): presented at construction, never written afterwards. `dots` is the font height
requested. The last two fields are the parameters R11 adds. -/
structure DisplayConfig where
  addr : BusAddress
  cols : Nat
  rows : Nat
  dots : Nat
  flags : FlagConstants
  nominal : NominalDelays
  deriving DecidableEq, Repr

/-- FREE VALUE (log 3): the answer of the transport to the write number `n` when the host has scripted none.
60_exceptions.md R232: "A model takes the answer of each write as a free input of the step (one draw per write, under no
law)". One for each error type. -/
opaque Config.transportAnswer (E : Type) : Nat → Answer E

/-- FREE VALUE (log 4): whether the byte of the failed write number `n` reached the expander's lines
(93_implementation_defined.md U3; D14: "either the old or the new byte"). -/
opaque Config.failedWriteLands : Nat → Bool

/-- FREE VALUE (log 5): what the expander's lines hold before the block's first write (R261; 91_not_in_source.md N19). -/
opaque Config.linesBeforeFirstWrite : Byte

end Sys2Proof
end

