-- ==== Sys2Proof/Machine/Defaults.lean ====
section
/-! DEFINITION. Values of the parameters: the default flag constants (30_encoding.md R92), the minimum and nominal delays
(70_reset_and_hazards.md R280), the configuration of the reset state. -/

namespace Sys2Proof

/-- R92: the default flag constants. PRESUMED (log 6): the spec marks each value "[from general knowledge, not in source]". -/
def FlagConstants.default : FlagConstants where
  displayOn := 0x04
  cursorOn := 0x02
  blinkOn := 0x01
  entryLeft := 0x02
  entryShiftIncrement := 0x01
  displayMove := 0x08
  moveRight := 0x04
  moveLeft := 0x00
  mode4Bit := 0x00
  line2 := 0x08
  line1 := 0x00
  dots5x10 := 0x04
  dots5x8 := 0x00

/-- R280: the hard minimum of each delay in nanoseconds, "what every hazard rule and every claim uses". -/
def Delay.minNs : Delay → Nat
  | .tPower => 40000000
  | .tIdle => 1000000000
  | .tInit1 => 4500000
  | .tInit2 => 4500000
  | .tInit3 => 150000
  | .tPulse => 450
  | .tSettle => 37000
  | .tLong => 2000000

/-- R280: the nominal values; where the source gives none, the minimum (D13). -/
def NominalDelays.default : NominalDelays where
  tPower := 50000000
  tIdle := 1000000000
  tInit1 := 4500000
  tInit2 := 4500000
  tInit3 := 150000
  tPulse := 1000
  tSettle := 50000
  tLong := 2000000

/-- The nominal value of a delay under a configuration (R8: "what a reimplementation passes to its sleep call"). -/
def DisplayConfig.nominalNs (c : DisplayConfig) : Delay → Nat
  | .tPower => c.nominal.tPower
  | .tIdle => c.nominal.tIdle
  | .tInit1 => c.nominal.tInit1
  | .tInit2 => c.nominal.tInit2
  | .tInit3 => c.nominal.tInit3
  | .tPulse => c.nominal.tPulse
  | .tSettle => c.nominal.tSettle
  | .tLong => c.nominal.tLong

/-- The configuration of the reset state: "construct with cols=16, rows=2" (95_test_vectors.md S7, P1), 8 dots.
DESIGN CHOICE (log 7): the spec fixes no configuration; the address stands for any. -/
def DisplayConfig.scenario : DisplayConfig where
  addr := ⟨8, 0x00⟩
  cols := 16
  rows := 2
  dots := 8
  flags := FlagConstants.default
  nominal := NominalDelays.default

end Sys2Proof
end

