-- ==== Sys2Proof/Machine/Operands.lean ====
section
/-! DEFINITION. The operand forms and encoding constants of what the block emits (spec 30_encoding.md): the expander byte, the
nibbles, the command opcodes, the SETCURSOR and CREATE_CHAR operands. -/

namespace Sys2Proof.Machine

/-! ## The expander byte (R81, R82) -/

/-- Register-select, bit 0. -/
def RS : Byte := 0x01
/-- Read/write, bit 1: never set. -/
def RW : Byte := 0x02
/-- Enable, bit 2. -/
def EN : Byte := 0x04
/-- Backlight, bit 3. -/
def BACKLIGHT : Byte := 0x08

/-- R82: `nibble | registerSelectBit | enableBit | currentBacklightFlag`. -/
def compose (n rs en bl : Byte) : Byte := n ||| rs ||| en ||| bl

/-! ## Nibbles (R84) -/

/-- `hi(v) = v & 0xF0`: bits 7 to 4, left in place. -/
def highNibble (v : Byte) : Byte := v &&& 0xF0

/-- `lo(v) = (v << 4) & 0xF0`: bits 3 to 0, shifted into bits 7 to 4. -/
def lowNibble (v : Byte) : Byte := (v <<< 4) &&& 0xF0

/-! ## Command opcodes (R85) -/

def CLEARDISPLAY : Byte := 0x01
def RETURNHOME : Byte := 0x02
def ENTRYMODESET : Byte := 0x04
def DISPLAYCONTROL : Byte := 0x08
def CURSORSHIFT : Byte := 0x10
def FUNCTIONSET : Byte := 0x20
def SETCGRAMADDR : Byte := 0x40
def SETDDRAMADDR : Byte := 0x80

/-! ## SETCURSOR (42_display_ops.md R164 to R166) -/

/-- R95, R59: the row base table, indexed 0 to 3. -/
def rowBaseTable : List Byte := [0x00, 0x40, 0x14, 0x54]

/-- The DDRAM address of column 0 of a row. Only an index below 4 is ever used (R165). -/
def rowBase (r : Nat) : Byte := rowBaseTable.getD r 0x00

/-- R164: `r <- row if row < ROWS, ROWS - 1 if row >= ROWS`. -/
def clampRow (rows : Nat) (row : Byte) : Nat := if row.toNat < rows then row.toNat else rows - 1

/-- R164, R166: `a <- col + rowBase[r]`, an 8-bit addition that wraps; no check of the column. -/
def ddramAddress (rows : Nat) (col row : Byte) : Byte := col + rowBase (clampRow rows row)

/-- R94: the SETDDRAMADDR command byte of SETCURSOR. -/
def setCursorCommand (rows : Nat) (col row : Byte) : Byte := SETDDRAMADDR ||| ddramAddress rows col row

/-! ## CREATE_CHAR (44_data_ops.md R216, R217) -/

/-- R93: `SETCGRAMADDR | ((slot & 0x7) << 3)`. -/
def createCharCommand (slot : Byte) : Byte := SETCGRAMADDR ||| ((slot &&& 0x07) <<< 3)

end Sys2Proof.Machine
end

