-- ==== Sys2Proof/Machine/Flags.lean ====
section
/-! DEFINITION. The flag computations: setting and clearing a flag of a mode register (43_mode_ops.md R180), the values START
writes (41_lifecycle.md R146, R147, R149), and the command bytes that carry a whole register (30_encoding.md R88 to R91). -/

namespace Sys2Proof.Machine

/-- "on is *set the bit*" (R180). -/
def setFlag (register flag : Byte) : Byte := register ||| flag

/-- "off is *clear the bit*" (R180). -/
def clearFlag (register flag : Byte) : Byte := register &&& ~~~flag

/-- R146: `MODE4BIT | (LINE2 if ROWS > 1 else LINE1) | (DOTS5x10 if (ROWS = 1 and DOTS = 10) else DOTS5x8)`. -/
def functionFlags (c : DisplayConfig) : Byte :=
  c.flags.mode4Bit ||| (if c.rows > 1 then c.flags.line2 else c.flags.line1)
    ||| (if c.rows = 1 ∧ c.dots = 10 then c.flags.dots5x10 else c.flags.dots5x8)

/-- R147: display on, cursor off, blink off; the whole register is overwritten. -/
def startDisplayFlags (c : DisplayConfig) : Byte := c.flags.displayOn

/-- R149: left to right, shift decrement; the whole register is overwritten. -/
def startEntryFlags (c : DisplayConfig) : Byte := c.flags.entryLeft

/-- R91: the function-set command byte. -/
def functionSetCommand (func : Byte) : Byte := FUNCTIONSET ||| func

/-- R89: the display-control command byte, the whole register. -/
def displayControlCommand (dctl : Byte) : Byte := DISPLAYCONTROL ||| dctl

/-- R88: the entry-mode command byte, the whole register. -/
def entryModeCommand (emode : Byte) : Byte := ENTRYMODESET ||| emode

/-- R90, R168: `CURSORSHIFT | DISPLAYMOVE | MOVELEFT`. -/
def scrollLeftCommand (f : FlagConstants) : Byte := CURSORSHIFT ||| f.displayMove ||| f.moveLeft

/-- R90, R169: `CURSORSHIFT | DISPLAYMOVE | MOVERIGHT`. -/
def scrollRightCommand (f : FlagConstants) : Byte := CURSORSHIFT ||| f.displayMove ||| f.moveRight

end Sys2Proof.Machine
end

