-- ==== Sys2Proof/Syntax.lean ====
section
/-! DEFINITION. The syntax, whole: one constructor of `Instr` per row of spec/opcode_table.json (22 operations `REQ24`, the
eight command bytes `CMD8`, the data byte `DATA8`, the expander byte `XB8`), and what can stand at the block's entry. -/

namespace Sys2Proof

/-- The rows of the opcode table. The first 22 are the operations the host can request (30_encoding.md R100); operands are
unsigned 8-bit immediates and a payload is a finite byte list. The last ten are the wire-level forms the block itself
emits (R80, R86 to R96): each stands for one call of the internal procedure that emits it (log 2). -/
inductive Instr where
  | clear
  | home
  | setCursor (col row : Byte)
  | displayOn
  | displayOff
  | cursorOn
  | cursorOff
  | blinkOn
  | blinkOff
  | scrollLeft
  | scrollRight
  | leftToRight
  | rightToLeft
  | autoscrollOn
  | autoscrollOff
  | createChar (slot : Byte) (rows : List Byte)
  | backlightOn
  | backlightOff
  | writeChar (byte : Byte)
  | print (text : List Byte)
  | start
  | stop
  | clearDisplay
  | returnHome
  | entryModeSet (direction shiftIncrement : Bool)
  | displayControl (display cursor blink : Bool)
  | cursorShift (displayMove right : Bool)
  | functionSet (busWidth8 twoLine font5x10 : Bool)
  | setCgramAddr (slot : BitVec 3)
  | setDdramAddr (address : BitVec 7)
  | dataByte (value : Byte)
  | expanderByte (nibble : BitVec 4) (backlight enable registerSelect : Bool)
  deriving DecidableEq, Repr

/-- What is presented to the block, one item a step.
`operation` is the request interface (00_scope.md R6) in the binary form of R101: a 24-bit word and a payload.
The other three are the entries of the inner layers (COMMAND, DATA, XWRITE), which the host cannot reach
(40_transfer_layers.md: "They are not operations"); they are here so that the wire-level rows can be run (log 2). -/
inductive Request where
  | operation (word : BitVec 24) (payload : List Byte)
  | command (c : Byte)
  | data (c : Byte)
  | expander (d : Byte)
  deriving DecidableEq, Repr

/-- The request comes from the host: it is one of the request interface (R6). -/
def Request.fromHost : Request → Bool
  | .operation _ _ => true
  | .command _ => false
  | .data _ => false
  | .expander _ => false

end Sys2Proof
end

