-- ==== Sys2Proof/WellFormed.lean ====
section
/-! DEFINITION. The checks: which configurations are admitted (10_state.md R22), which flag constants (30_encoding.md R92),
which rows of the table are operations (R100), and which wire-level forms the block can emit (R83, R98). -/

namespace Sys2Proof

/-- R92: the three display flags are different single bits within 0x07, the two entry flags different single bits within
0x03, the shift flags within 0x0F, the function-set flags within 0x1F. -/
def FlagConstants.wellFormed (f : FlagConstants) : Bool :=
  [0x01#8, 0x02#8, 0x04#8].contains f.displayOn &&
  [0x01#8, 0x02#8, 0x04#8].contains f.cursorOn &&
  [0x01#8, 0x02#8, 0x04#8].contains f.blinkOn &&
  f.displayOn != f.cursorOn && f.displayOn != f.blinkOn && f.cursorOn != f.blinkOn &&
  [0x01#8, 0x02#8].contains f.entryLeft &&
  [0x01#8, 0x02#8].contains f.entryShiftIncrement &&
  f.entryLeft != f.entryShiftIncrement &&
  (f.displayMove ||| f.moveRight ||| f.moveLeft) &&& 0xF0#8 == 0x00#8 &&
  (f.mode4Bit ||| f.line2 ||| f.line1 ||| f.dots5x10 ||| f.dots5x8) &&& 0xE0#8 == 0x00#8

/-- R22: "A configuration is admitted only when `1 <= ROWS <= 4` and `DOTS` is 8 or 10"; and, of the parameters R11 adds,
the flag constants meet R92's constraints (D19). `COLS` and `ADDR` are any. -/
def DisplayConfig.wellFormed (c : DisplayConfig) : Bool :=
  decide (1 ≤ c.rows) && decide (c.rows ≤ 4) && (c.dots == 8 || c.dots == 10) && c.flags.wellFormed

/-- The row is one of the 22 operations of R100: "No other operation exists". -/
def Instr.isOperation : Instr → Bool
  | .clear | .home | .setCursor _ _ | .displayOn | .displayOff | .cursorOn | .cursorOff | .blinkOn | .blinkOff => true
  | .scrollLeft | .scrollRight | .leftToRight | .rightToLeft | .autoscrollOn | .autoscrollOff => true
  | .createChar _ _ | .backlightOn | .backlightOff | .writeChar _ | .print _ | .start | .stop => true
  | .clearDisplay | .returnHome | .entryModeSet _ _ | .displayControl _ _ _ | .cursorShift _ _ => false
  | .functionSet _ _ _ | .setCgramAddr _ | .setDdramAddr _ | .dataByte _ | .expanderByte _ _ _ _ => false

/-- The wire-level form is one that some operation emits in some state with the default flag constants (R83, R98): a
CURSORSHIFT always moves the display, a FUNCTIONSET is 0x20, 0x24 or 0x28. An operation is none. -/
def Instr.emittable : Instr → Bool
  | .clear | .home | .setCursor _ _ | .displayOn | .displayOff | .cursorOn | .cursorOff | .blinkOn | .blinkOff => false
  | .scrollLeft | .scrollRight | .leftToRight | .rightToLeft | .autoscrollOn | .autoscrollOff => false
  | .createChar _ _ | .backlightOn | .backlightOff | .writeChar _ | .print _ | .start | .stop => false
  | .clearDisplay | .returnHome | .entryModeSet _ _ | .displayControl _ _ _ => true
  | .cursorShift displayMove _ => displayMove
  | .functionSet busWidth8 twoLine font5x10 => !busWidth8 && !(twoLine && font5x10)
  | .setCgramAddr _ | .setDdramAddr _ | .dataByte _ | .expanderByte _ _ _ _ => true

end Sys2Proof
end

