-- ==== Sys2Proof/Decode.lean ====
section
/-! DEFINITION. Decoding and encoding (spec 30_encoding.md): the request word of R101 with the selectors of R102, the command
bytes of R86 to R94, the data byte of R96 and the expander byte of R80. Decoding is total on every word and byte and
rejects by name. -/

namespace Sys2Proof

/-- Why a word or byte names no row of the table. -/
inductive DecodeError where
  /-- `sel` is 0x00 or 0x17 to 0xFF (R103). -/
  | unassignedSelector (sel : Byte)
  /-- The byte fits none of the eight command formats of R86 to R94. -/
  | notACommandByte (c : Byte)
  /-- Bit 1 (read/write) of an expander byte is set, which R81 and R83 exclude. -/
  | readWriteBitSet (d : Byte)
  deriving DecidableEq, Repr

/-! ## The request word (R101, R102) -/

/-- `req[23:16]`, the operation selector. -/
def reqSelector (word : BitVec 24) : Byte := word.extractLsb' 16 8

/-- `req[15:8]`, the first operand. -/
def reqA (word : BitVec 24) : Byte := word.extractLsb' 8 8

/-- `req[7:0]`, the second operand. -/
def reqB (word : BitVec 24) : Byte := word.extractLsb' 0 8

/-- The request word with the given selector and operands. -/
def reqWord (sel a b : Byte) : BitVec 24 := (sel ++ a ++ b : BitVec (8 + 8 + 8))

/-- R102: the operation a selector names; operands an operation does not use are ignored (R101). -/
def decodeOperation (word : BitVec 24) (payload : List Byte) : Except DecodeError Instr :=
  match (reqSelector word).toNat with
  | 0x01 => .ok .clear
  | 0x02 => .ok .home
  | 0x03 => .ok (.setCursor (reqA word) (reqB word))
  | 0x04 => .ok .displayOn
  | 0x05 => .ok .displayOff
  | 0x06 => .ok .cursorOn
  | 0x07 => .ok .cursorOff
  | 0x08 => .ok .blinkOn
  | 0x09 => .ok .blinkOff
  | 0x0A => .ok .scrollLeft
  | 0x0B => .ok .scrollRight
  | 0x0C => .ok .leftToRight
  | 0x0D => .ok .rightToLeft
  | 0x0E => .ok .autoscrollOn
  | 0x0F => .ok .autoscrollOff
  | 0x10 => .ok (.createChar (reqA word) payload)
  | 0x11 => .ok .backlightOn
  | 0x12 => .ok .backlightOff
  | 0x13 => .ok (.writeChar (reqA word))
  | 0x14 => .ok (.print payload)
  | 0x15 => .ok .start
  | 0x16 => .ok .stop
  | _ => .error (.unassignedSelector (reqSelector word))

/-! ## Command, data and expander bytes -/

/-- The command byte formats. The highest set bit names the command (R85); the bits a format fixes at 0 must be 0. -/
def decodeCommand (c : Byte) : Except DecodeError Instr :=
  if c.getLsbD 7 then .ok (.setDdramAddr (c.extractLsb' 0 7))
  else if c.extractLsb' 6 2 == 0b01#2 && c.extractLsb' 0 3 == 0b000#3 then .ok (.setCgramAddr (c.extractLsb' 3 3))
  else if c.extractLsb' 5 3 == 0b001#3 && c.extractLsb' 0 2 == 0b00#2 then
    .ok (.functionSet (c.getLsbD 4) (c.getLsbD 3) (c.getLsbD 2))
  else if c.extractLsb' 4 4 == 0b0001#4 && c.extractLsb' 0 2 == 0b00#2 then
    .ok (.cursorShift (c.getLsbD 3) (c.getLsbD 2))
  else if c.extractLsb' 3 5 == 0b00001#5 then .ok (.displayControl (c.getLsbD 2) (c.getLsbD 1) (c.getLsbD 0))
  else if c.extractLsb' 2 6 == 0b000001#6 then .ok (.entryModeSet (c.getLsbD 1) (c.getLsbD 0))
  else if c == 0b00000010#8 then .ok .returnHome
  else if c == 0b00000001#8 then .ok .clearDisplay
  else .error (.notACommandByte c)

/-- R96: any value is a data byte. -/
def decodeData (c : Byte) : Except DecodeError Instr := .ok (.dataByte c)

/-- R80: `N3..N0 BLT EN RW RS`, with RW (bit 1) always 0. -/
def decodeExpander (d : Byte) : Except DecodeError Instr :=
  if d.getLsbD 1 then .error (.readWriteBitSet d)
  else .ok (.expanderByte (d.extractLsb' 4 4) (d.getLsbD 3) (d.getLsbD 2) (d.getLsbD 0))

/-- What an item presented to the block asks for. -/
def decode : Request → Except DecodeError Instr
  | .operation word payload => decodeOperation word payload
  | .command c => decodeCommand c
  | .data c => decodeData c
  | .expander d => decodeExpander d

/-! ## The encoder -/

/-- One bit as a bit vector. -/
def flagBit (b : Bool) : BitVec 1 := BitVec.ofBool b

/-- The word or byte of a row, with every unused operand zero. -/
def encode : Instr → Request
  | .clear => .operation (reqWord 0x01 0 0) []
  | .home => .operation (reqWord 0x02 0 0) []
  | .setCursor col row => .operation (reqWord 0x03 col row) []
  | .displayOn => .operation (reqWord 0x04 0 0) []
  | .displayOff => .operation (reqWord 0x05 0 0) []
  | .cursorOn => .operation (reqWord 0x06 0 0) []
  | .cursorOff => .operation (reqWord 0x07 0 0) []
  | .blinkOn => .operation (reqWord 0x08 0 0) []
  | .blinkOff => .operation (reqWord 0x09 0 0) []
  | .scrollLeft => .operation (reqWord 0x0A 0 0) []
  | .scrollRight => .operation (reqWord 0x0B 0 0) []
  | .leftToRight => .operation (reqWord 0x0C 0 0) []
  | .rightToLeft => .operation (reqWord 0x0D 0 0) []
  | .autoscrollOn => .operation (reqWord 0x0E 0 0) []
  | .autoscrollOff => .operation (reqWord 0x0F 0 0) []
  | .createChar slot rows => .operation (reqWord 0x10 slot 0) rows
  | .backlightOn => .operation (reqWord 0x11 0 0) []
  | .backlightOff => .operation (reqWord 0x12 0 0) []
  | .writeChar byte => .operation (reqWord 0x13 byte 0) []
  | .print text => .operation (reqWord 0x14 0 0) text
  | .start => .operation (reqWord 0x15 0 0) []
  | .stop => .operation (reqWord 0x16 0 0) []
  | .clearDisplay => .command 0b00000001#8
  | .returnHome => .command 0b00000010#8
  | .entryModeSet direction shiftIncrement => .command (0b000001#6 ++ flagBit direction ++ flagBit shiftIncrement : BitVec (6 + 1 + 1))
  | .displayControl display cursor blink => .command (0b00001#5 ++ flagBit display ++ flagBit cursor ++ flagBit blink : BitVec (5 + 1 + 1 + 1))
  | .cursorShift displayMove right => .command (0b0001#4 ++ flagBit displayMove ++ flagBit right ++ 0b00#2 : BitVec (4 + 1 + 1 + 2))
  | .functionSet busWidth8 twoLine font5x10 =>
    .command (0b001#3 ++ flagBit busWidth8 ++ flagBit twoLine ++ flagBit font5x10 ++ 0b00#2 : BitVec (3 + 1 + 1 + 1 + 2))
  | .setCgramAddr slot => .command (0b01#2 ++ slot ++ 0b000#3 : BitVec (2 + 3 + 3))
  | .setDdramAddr address => .command (0b1#1 ++ address : BitVec (1 + 7))
  | .dataByte value => .data value
  | .expanderByte nibble backlight enable registerSelect =>
    .expander (nibble ++ flagBit backlight ++ flagBit enable ++ 0b0#1 ++ flagBit registerSelect : BitVec (4 + 1 + 1 + 1 + 1))

/-- R105: "A program is a list of such lines executed top to bottom, each to completion": the requests, in order. -/
def assemble (program : List Instr) : List Request := program.map encode

/-! ## The host's view of the table -/

/-- A byte of the table given alone, without saying which port it is for. Every byte fits the row DATABYTE and every byte
with bit 1 clear fits EXPANDERBYTE, so the row that fixes the most bits is taken: a command byte where the byte is one,
else an expander byte where bit 1 is clear, else a data byte. DESIGN CHOICE (log 2). -/
def bareByte (c : Byte) : Request :=
  match decodeCommand c with
  | .ok _ => .command c
  | .error _ => if c.getLsbD 1 then .data c else .expander c

/-- The item a table word stands for: a 24-bit word is a request with an empty payload, an 8-bit word a bare byte. -/
def tableRequest (nbits w : Nat) : Request :=
  if nbits ≤ 8 then bareByte (BitVec.ofNat 8 w) else .operation (BitVec.ofNat 24 w) []

/-- The instruction the decoder reads from the table word `w` of `nbits` bits. -/
def decodeTableWord (nbits w : Nat) : Option Instr :=
  match decode (tableRequest nbits w) with
  | .ok i => some i
  | .error _ => none

end Sys2Proof
end

