-- ==== Sys2Proof/Machine/State.lean ====
section
/-! DEFINITION. The state of the block, whole (10_state.md), with the ends of its interfaces (00_scope.md R6 to R9) and the
expander's lines (R37), the reasons a step can stop, and reset (R32, 70_reset_and_hazards.md R260). All plain data. -/

namespace Sys2Proof.Machine

/-- 10_state.md R24. -/
inductive Phase where
  | uninitialized
  | initializing
  | ready
  deriving DecidableEq, Repr

/-- An event of the trace (R16, R17, R19): `W(d)` with the address it went to and its answer, or `T(name)`. -/
inductive Event (E : Type) where
  | write (addr : BusAddress) (d : Byte) (answer : Answer E)
  | delay (name : Delay)
  deriving DecidableEq, Repr

/-- The state, over the type `E` of the transport's errors (R11's argument `TErr`; D21: "the model is generic in it");
INVENTORY.md lists each field with its rule. -/
structure State.Over (E : Type) where
  /-- DisplayConfig (R10, R20): never written. -/
  cfg : DisplayConfig
  /-- `PHASE` (R24). -/
  phase : Phase
  /-- `FUNC`, functionFlags (R25). -/
  func : Byte
  /-- `DCTL`, displayControlFlags (R26). -/
  dctl : Byte
  /-- `EMODE`, entryModeFlags (R27). -/
  emode : Byte
  /-- `BL`, backlightFlag (R28). -/
  bl : Byte
  /-- The trace since reset, oldest event first (R19, R260). -/
  trace : List (Event E)
  /-- The response of the last operation that ended (R9). -/
  errs : List E
  /-- The request interface (R6): what is presented, next first. The model's own field (log 1). -/
  requests : List Request
  /-- The bus write interface (R7): the answers scripted for the coming writes. The model's own field (log 3). -/
  answers : List (Answer E)
  /-- How many bus writes have been made; the counter of the free answers. The model's own field (log 3). -/
  draws : Nat
  /-- The expander's eight output lines (R37, R68): outside the block, read by nothing in it (log 4). -/
  lines : Byte
  deriving DecidableEq, Repr

/-- The state at the host's error type (log 9). -/
abbrev State := State.Over TErr

/-- Why the machine would stop with a fault: for no reason. The block's one error, TransportFailure, is a next state
(60_exceptions.md R230, R236), and "Nothing else is an error" (R234). -/
inductive Fault where
  deriving DecidableEq, Repr

/-- Why a step has no meaning (60_exceptions.md R234: "refusals of the model, not exceptions of the hardware"). -/
inductive Refusal where
  /-- An instruction without a meaning yet; raised by exec alone; safe. -/
  | notModelled (mnemonic : String)
  /-- The item presented decodes to no row (R103); raised by step; safe. -/
  | undecodable (why : DecodeError)
  /-- START outside `Uninitialized` (R154); raised by START; safe. -/
  | startNotAdmitted (phase : Phase)
  /-- The configuration is not well formed (R22), so no block exists; raised by every instruction; safe. -/
  | illFormedConfiguration
  deriving DecidableEq, Repr

/-- The block as it is constructed (R32, R260): nothing written, nothing presented, nothing scripted. `backlit` is
`BL_RESET`, an open parameter (D6); `lines` is what the expander happens to hold, which construction does not touch
(R261). FUNC, DCTL and EMODE are 0x00 by the spec's choice D5 (log 8). -/
def State.Over.initial {E : Type} (cfg : DisplayConfig) (backlit : Bool) (lines : Byte) : State.Over E where
  cfg := cfg
  phase := .uninitialized
  func := 0x00
  dctl := 0x00
  emode := 0x00
  bl := if backlit then 0x08 else 0x00
  trace := []
  errs := []
  requests := []
  answers := []
  draws := 0
  lines := lines

/-- Construction (R260), refused for an ill-formed configuration (R22: "no block exists", V-R4). -/
def State.Over.construct {E : Type} (cfg : DisplayConfig) (backlit : Bool) (lines : Byte) : Option (State.Over E) :=
  if cfg.wellFormed then some (State.Over.initial cfg backlit lines) else none

/-- The machine right after reset, for the configuration of log 7 and `BL_RESET` = 0x00 (DESIGN CHOICE, log 8). -/
def State.reset : State := State.Over.initial DisplayConfig.scenario false Config.linesBeforeFirstWrite

end Sys2Proof.Machine
end

