-- ==== Sys2Proof/Machine/Ops.lean ====
section
/-! DEFINITION. The named operations the meanings share: register writes, the two primitives MemWrite and Delay
(00_scope.md R16, R17), sequencing, raising and catching TransportFailure (R18, 60_exceptions.md R236), the response at
the operation boundary (R9), and the request interface (R6). -/

namespace Sys2Proof.Machine

variable {E : Type}

/-! ## Register writes (`x <- v`, R15) -/

def State.Over.setPhase (s : State.Over E) (p : Phase) : State.Over E := { s with phase := p }
def State.Over.setFunc (s : State.Over E) (v : Byte) : State.Over E := { s with func := v }
def State.Over.setDctl (s : State.Over E) (v : Byte) : State.Over E := { s with dctl := v }
def State.Over.setEmode (s : State.Over E) (v : Byte) : State.Over E := { s with emode := v }
def State.Over.setBl (s : State.Over E) (v : Byte) : State.Over E := { s with bl := v }
def State.Over.setErrs (s : State.Over E) (e : List E) : State.Over E := { s with errs := e }

/-- The host presents one item after those already presented (R6). -/
def State.Over.present (s : State.Over E) (r : Request) : State.Over E := { s with requests := s.requests ++ [r] }

/-- The items still to come. -/
def State.Over.setRequests (s : State.Over E) (rs : List Request) : State.Over E := { s with requests := rs }

/-! ## The bus and the clock -/

/-- What the transport will answer to the next write: the scripted answer, else a free value (R7, R232). -/
def State.Over.nextAnswer (s : State.Over E) : Answer E :=
  match s.answers with
  | a :: _ => a
  | [] => Config.transportAnswer E s.draws

/-- The expander's lines after a write of `d` answered `a` (R68; R37): the byte written, and after a failed write the
old or the new byte (D14). -/
def State.Over.linesAfter (s : State.Over E) (d : Byte) (a : Answer E) : Byte :=
  match a with
  | .ok => d
  | .fail _ => if Config.failedWriteLands s.draws then d else s.lines

/-- The state after a bus write of `d` that was answered `a`. -/
def State.Over.recordWrite (s : State.Over E) (d : Byte) (a : Answer E) : State.Over E :=
  { s with
    trace := s.trace ++ [.write s.cfg.addr d a]
    answers := s.answers.tail
    draws := s.draws + 1
    lines := s.linesAfter d a }

/-- The state after a delay. -/
def State.Over.recordDelay (s : State.Over E) (t : Delay) : State.Over E := { s with trace := s.trace ++ [.delay t] }

/-- `MemWrite(ADDR, 1, d)` (R16): one event `W(d)`, one answer. -/
def memWrite (d : Byte) (s : State.Over E) : State.Over E × Answer E := (s.recordWrite d s.nextAnswer, s.nextAnswer)

/-! ## Procedures and the one exception -/

/-- How a procedure ends, over any error type: it ran to its end, or it raised TransportFailure(e) (R18). The state goes
with it either way: "State written before the `raise` stays written". -/
inductive Result (E : Type) where
  | done (s : State.Over E)
  | raised (e : E) (s : State.Over E)
  deriving DecidableEq, Repr

/-- The next statement of a procedure: not executed after a raise (R18). -/
def Result.andThen (r : Result E) (next : State.Over E → Result E) : Result E :=
  match r with
  | .done s => next s
  | .raised e s => .raised e s

/-- `Delay(name)` (R17). -/
def delay (t : Delay) (s : State.Over E) : Result E := .done (s.recordDelay t)

/-- `raise TransportFailure(e)` (R18, R236): nothing is saved and nothing is changed. -/
def raiseTransportFailure (e : E) (s : State.Over E) : Result E := .raised e s

/-- `try body catch e: errs <- errs ++ [e]` (R18, R156): only STOP uses it. -/
def attempt (body : State.Over E → Result E) (s : State.Over E) : State.Over E :=
  match body s with
  | .done s' => s'
  | .raised e s' => s'.setErrs (s'.errs ++ [e])

/-- TAKING THE EXCEPTION at the operation boundary, and the ordinary end beside it (R18, R236 (d), R9): the operation
ends with `errs = [e]`, or with `errs = []`. Every register keeps the value it has. -/
def endOperation (r : Result E) : State.Over E :=
  match r with
  | .done s => s.setErrs []
  | .raised e s => s.setErrs [e]

/-! ## Operations -/

/-- A block exists only for a well-formed configuration (R22). -/
def guardConfiguration (s : State.Over E) (o : Host.Outcome (State.Over E) Fault Refusal) :
    Host.Outcome (State.Over E) Fault Refusal :=
  if s.cfg.wellFormed then o else .refused .illFormedConfiguration

/-- One operation whose first failure ends it: every operation but STOP. -/
def perform (body : State.Over E → Result E) (s : State.Over E) : Host.Outcome (State.Over E) Fault Refusal :=
  guardConfiguration s (.next (endOperation (body s)))

end Sys2Proof.Machine
end

