-- ==== Sys2Proof/Machine/Transfer.lean ====
section
/-! DEFINITION. The transfer layers as internal procedures (spec 40_transfer_layers.md): XWRITE, PULSE, NIBBLE, SEND, COMMAND,
DATA. -/

namespace Sys2Proof.Machine

variable {E : Type}

/-- XWRITE (R120): compose the byte with BL as it is now, write it, raise on a failure. -/
def xwrite (n rs en : Byte) (s : State.Over E) : Result E :=
  match memWrite (compose n rs en s.bl) s with
  | (s', .ok) => .done s'
  | (s', .fail e) => raiseTransportFailure e s'

/-- PULSE (R122), steps (a) to (d). -/
def pulse (v : Byte) (s : State.Over E) : Result E :=
  (((xwrite (v &&& 0xF0) (v &&& RS) EN s).andThen
    (delay .tPulse)).andThen
    (xwrite (v &&& 0xF0) (v &&& RS) 0x00)).andThen
    (delay .tSettle)

/-- NIBBLE (R124): a raw one-nibble transfer to the command register. -/
def nibble (n : Byte) (s : State.Over E) : Result E := pulse n s

/-- SEND (R125): the high nibble, then the low nibble. -/
def send (v rs : Byte) (s : State.Over E) : Result E :=
  (pulse (highNibble v ||| rs) s).andThen (pulse (lowNibble v ||| rs))

/-- COMMAND (R127). -/
def command (c : Byte) (s : State.Over E) : Result E := send c 0x00 s

/-- DATA (R128). -/
def data (c : Byte) (s : State.Over E) : Result E := send c RS s

/-- The loop of PRINT and CREATE_CHAR (R131 (c)): one DATA per byte, in list order, ended by the first failure. -/
def dataList : List Byte → State.Over E → Result E
  | [], s => .done s
  | c :: cs, s => (data c s).andThen (dataList cs)

end Sys2Proof.Machine
end

