-- ==== Sys2Proof/Machine/Data.lean ====
section
/-! DEFINITION. WRITE_CHAR, PRINT, CREATE_CHAR (spec 44_data_ops.md). -/

namespace Sys2Proof.Machine

variable {E : Type}

/-- WRITE_CHAR (R210). -/
def execWriteChar (byte : Byte) (s : State.Over E) : Host.Outcome (State.Over E) Fault Refusal := perform (data byte) s

/-- PRINT (R212): nothing at all for an empty text (R213). -/
def execPrint (text : List Byte) (s : State.Over E) : Host.Outcome (State.Over E) Fault Refusal := perform (dataList text) s

/-- The body of CREATE_CHAR (R216): the address command, then the rows, as many and as given (R218, R220). -/
def createCharBody (slot : Byte) (rows : List Byte) (s : State.Over E) : Result E :=
  (command (createCharCommand slot) s).andThen (dataList rows)

/-- CREATE_CHAR (R216). -/
def execCreateChar (slot : Byte) (rows : List Byte) (s : State.Over E) : Host.Outcome (State.Over E) Fault Refusal :=
  perform (createCharBody slot rows) s

end Sys2Proof.Machine
end

