-- ==== Sys2Proof/Machine/Display.lean ====
section
/-! DEFINITION. CLEAR, HOME, SETCURSOR, SCROLL_LEFT, SCROLL_RIGHT (spec 42_display_ops.md). -/

namespace Sys2Proof.Machine

variable {E : Type}

/-- The body of CLEAR (R160), also START step 7 (R148) and the first part of STOP (R156). -/
def clearBody (s : State.Over E) : Result E := (command CLEARDISPLAY s).andThen (delay .tLong)

/-- The body of HOME (R162), also START step 9 (R150). -/
def homeBody (s : State.Over E) : Result E := (command RETURNHOME s).andThen (delay .tLong)

/-- CLEAR (R160). -/
def execClear (s : State.Over E) : Host.Outcome (State.Over E) Fault Refusal := perform clearBody s

/-- HOME (R162). -/
def execHome (s : State.Over E) : Host.Outcome (State.Over E) Fault Refusal := perform homeBody s

/-- SETCURSOR (R164): the row is clamped, the column is not checked. -/
def execSetCursor (col row : Byte) (s : State.Over E) : Host.Outcome (State.Over E) Fault Refusal :=
  perform (command (setCursorCommand s.cfg.rows col row)) s

/-- SCROLL_LEFT (R168). -/
def execScrollLeft (s : State.Over E) : Host.Outcome (State.Over E) Fault Refusal :=
  perform (command (scrollLeftCommand s.cfg.flags)) s

/-- SCROLL_RIGHT (R169). -/
def execScrollRight (s : State.Over E) : Host.Outcome (State.Over E) Fault Refusal :=
  perform (command (scrollRightCommand s.cfg.flags)) s

end Sys2Proof.Machine
end

