-- ==== Sys2Proof/Machine/Mode.lean ====
section
/-! DEFINITION. The twelve mode operations (spec 43_mode_ops.md): each writes its register first and then emits, so a failure
leaves the new value in place (R180, 10_state.md R43). -/

namespace Sys2Proof.Machine

variable {E : Type}

/-- `DCTL <- v; COMMAND(DISPLAYCONTROL | DCTL)` (R180). -/
def emitDisplayControl (v : Byte) (s : State.Over E) : Result E := command (displayControlCommand v) (s.setDctl v)

/-- `EMODE <- v; COMMAND(ENTRYMODESET | EMODE)` (R180). -/
def emitEntryMode (v : Byte) (s : State.Over E) : Result E := command (entryModeCommand v) (s.setEmode v)

/-- `BL <- v; XWRITE(0x00, 0x00, 0x00)` (R193): one bare write, no pulse, no delay. -/
def switchBacklight (v : Byte) (s : State.Over E) : Result E := xwrite 0x00 0x00 0x00 (s.setBl v)

/-- The body of DISPLAY_OFF (R182), also the fourth part of STOP. -/
def displayOffBody (s : State.Over E) : Result E := emitDisplayControl (clearFlag s.dctl s.cfg.flags.displayOn) s

/-- The body of CURSOR_OFF (R184), also the third part of STOP. -/
def cursorOffBody (s : State.Over E) : Result E := emitDisplayControl (clearFlag s.dctl s.cfg.flags.cursorOn) s

/-- The body of BACKLIGHT_OFF (R195), also the second part of STOP. -/
def backlightOffBody (s : State.Over E) : Result E := switchBacklight 0x00 s

/-- DISPLAY_ON (R181). -/
def execDisplayOn (s : State.Over E) : Host.Outcome (State.Over E) Fault Refusal :=
  perform (emitDisplayControl (setFlag s.dctl s.cfg.flags.displayOn)) s

/-- DISPLAY_OFF (R182). -/
def execDisplayOff (s : State.Over E) : Host.Outcome (State.Over E) Fault Refusal := perform displayOffBody s

/-- CURSOR_ON (R183). -/
def execCursorOn (s : State.Over E) : Host.Outcome (State.Over E) Fault Refusal :=
  perform (emitDisplayControl (setFlag s.dctl s.cfg.flags.cursorOn)) s

/-- CURSOR_OFF (R184). -/
def execCursorOff (s : State.Over E) : Host.Outcome (State.Over E) Fault Refusal := perform cursorOffBody s

/-- BLINK_ON (R185). -/
def execBlinkOn (s : State.Over E) : Host.Outcome (State.Over E) Fault Refusal :=
  perform (emitDisplayControl (setFlag s.dctl s.cfg.flags.blinkOn)) s

/-- BLINK_OFF (R186). -/
def execBlinkOff (s : State.Over E) : Host.Outcome (State.Over E) Fault Refusal :=
  perform (emitDisplayControl (clearFlag s.dctl s.cfg.flags.blinkOn)) s

/-- LEFT_TO_RIGHT (R188). -/
def execLeftToRight (s : State.Over E) : Host.Outcome (State.Over E) Fault Refusal :=
  perform (emitEntryMode (setFlag s.emode s.cfg.flags.entryLeft)) s

/-- RIGHT_TO_LEFT (R189). -/
def execRightToLeft (s : State.Over E) : Host.Outcome (State.Over E) Fault Refusal :=
  perform (emitEntryMode (clearFlag s.emode s.cfg.flags.entryLeft)) s

/-- AUTOSCROLL_ON (R190). -/
def execAutoscrollOn (s : State.Over E) : Host.Outcome (State.Over E) Fault Refusal :=
  perform (emitEntryMode (setFlag s.emode s.cfg.flags.entryShiftIncrement)) s

/-- AUTOSCROLL_OFF (R191). -/
def execAutoscrollOff (s : State.Over E) : Host.Outcome (State.Over E) Fault Refusal :=
  perform (emitEntryMode (clearFlag s.emode s.cfg.flags.entryShiftIncrement)) s

/-- BACKLIGHT_ON (R194). -/
def execBacklightOn (s : State.Over E) : Host.Outcome (State.Over E) Fault Refusal := perform (switchBacklight BACKLIGHT) s

/-- BACKLIGHT_OFF (R195). -/
def execBacklightOff (s : State.Over E) : Host.Outcome (State.Over E) Fault Refusal := perform backlightOffBody s

end Sys2Proof.Machine
end

