-- ==== Sys2Proof/Machine/Lifecycle.lean ====
section
/-! DEFINITION. START and STOP (spec 41_lifecycle.md). -/

namespace Sys2Proof.Machine

variable {E : Type}

/-! ## START: the nine steps -/

/-- Step 1 (R142). -/
def startStep1 (s : State.Over E) : Result E := delay .tPower s

/-- Step 2 (R143): the idle byte. -/
def startStep2 (s : State.Over E) : Result E := (xwrite 0x00 0x00 0x00 s).andThen (delay .tIdle)

/-- Step 3 (R144): three 0x3 nibbles, each with its own extra delay. -/
def startStep3 (s : State.Over E) : Result E :=
  (((((nibble 0x30 s).andThen (delay .tInit1)).andThen
    (nibble 0x30)).andThen (delay .tInit2)).andThen
    (nibble 0x30)).andThen (delay .tInit3)

/-- Step 4 (R145). -/
def startStep4 (s : State.Over E) : Result E := nibble 0x20 s

/-- Step 5 (R146): FUNC is written, then emitted. -/
def startStep5 (s : State.Over E) : Result E :=
  command (functionSetCommand (functionFlags s.cfg)) (s.setFunc (functionFlags s.cfg))

/-- Step 6 (R147). -/
def startStep6 (s : State.Over E) : Result E := emitDisplayControl (startDisplayFlags s.cfg) s

/-- Step 7 (R148). -/
def startStep7 (s : State.Over E) : Result E := clearBody s

/-- Step 8 (R149). -/
def startStep8 (s : State.Over E) : Result E := emitEntryMode (startEntryFlags s.cfg) s

/-- Step 9 (R150). -/
def startStep9 (s : State.Over E) : Result E := homeBody s

/-- The body of START (R140): `Initializing` before the first event (R141), `Ready` after the last (R152). -/
def startBody (s : State.Over E) : Result E :=
  (((((((((startStep1 (s.setPhase .initializing)).andThen
    startStep2).andThen
    startStep3).andThen
    startStep4).andThen
    startStep5).andThen
    startStep6).andThen
    startStep7).andThen
    startStep8).andThen
    startStep9).andThen
    (fun s' => .done (s'.setPhase .ready))

/-- START (R140), admitted only in `Uninitialized` (R154: "A model refuses START in any other phase"). -/
def execStart (s : State.Over E) : Host.Outcome (State.Over E) Fault Refusal :=
  guardConfiguration s
    (if s.phase = .uninitialized then .next (endOperation (startBody s)) else .refused (.startNotAdmitted s.phase))

/-! ## STOP: four parts, every one attempted -/

/-- The body of STOP (R156): the errors are collected in the order of the parts (R158). -/
def stopBody (s : State.Over E) : State.Over E :=
  attempt displayOffBody (attempt cursorOffBody (attempt backlightOffBody (attempt clearBody (s.setErrs []))))

/-- STOP (R156). -/
def execStop (s : State.Over E) : Host.Outcome (State.Over E) Fault Refusal := guardConfiguration s (.next (stopBody s))

end Sys2Proof.Machine
end

