-- ==== Sys2Proof/Machine/Wire.lean ====
section
/-! DEFINITION. The wire-level rows of the table (30_encoding.md R80, R86 to R96): each is one call of the internal procedure
that emits the byte, run alone, as the vectors V-T1 to V-T16 of 95_test_vectors.md call them (log 2). None writes a
register. -/

namespace Sys2Proof.Machine

variable {E : Type}

/-- The command byte of a wire-level row, or its data or expander byte: the byte of its encoding. -/
def wireByte (i : Instr) : Byte :=
  match encode i with
  | .operation _ _ => 0x00
  | .command c => c
  | .data c => c
  | .expander d => d

/-- COMMAND of a command byte (R127). -/
def sendWireCommand (i : Instr) (s : State.Over E) : Host.Outcome (State.Over E) Fault Refusal :=
  perform (command (wireByte i)) s

/-- CLEARDISPLAY (R86). -/
def execClearDisplay (s : State.Over E) : Host.Outcome (State.Over E) Fault Refusal := sendWireCommand .clearDisplay s

/-- RETURNHOME (R87). -/
def execReturnHome (s : State.Over E) : Host.Outcome (State.Over E) Fault Refusal := sendWireCommand .returnHome s

/-- ENTRYMODESET (R88). -/
def execEntryModeSet (direction shiftIncrement : Bool) (s : State.Over E) : Host.Outcome (State.Over E) Fault Refusal :=
  sendWireCommand (.entryModeSet direction shiftIncrement) s

/-- DISPLAYCONTROL (R89). -/
def execDisplayControl (display cursor blink : Bool) (s : State.Over E) : Host.Outcome (State.Over E) Fault Refusal :=
  sendWireCommand (.displayControl display cursor blink) s

/-- CURSORSHIFT (R90). -/
def execCursorShift (displayMove right : Bool) (s : State.Over E) : Host.Outcome (State.Over E) Fault Refusal :=
  sendWireCommand (.cursorShift displayMove right) s

/-- FUNCTIONSET (R91). -/
def execFunctionSet (busWidth8 twoLine font5x10 : Bool) (s : State.Over E) : Host.Outcome (State.Over E) Fault Refusal :=
  sendWireCommand (.functionSet busWidth8 twoLine font5x10) s

/-- SETCGRAMADDR (R93). -/
def execSetCgramAddr (slot : BitVec 3) (s : State.Over E) : Host.Outcome (State.Over E) Fault Refusal :=
  sendWireCommand (.setCgramAddr slot) s

/-- SETDDRAMADDR (R94). -/
def execSetDdramAddr (address : BitVec 7) (s : State.Over E) : Host.Outcome (State.Over E) Fault Refusal :=
  sendWireCommand (.setDdramAddr address) s

/-- DATABYTE (R96): DATA of the value (R128). -/
def execDataByte (value : Byte) (s : State.Over E) : Host.Outcome (State.Over E) Fault Refusal := perform (data value) s

/-- EXPANDERBYTE (R80): XWRITE of its parts (R120). Bit 3 of what is written is `BL`, whatever `_backlight` says: "bit 3
comes from `BL` only" (log 2). -/
def execExpanderByte (nib : BitVec 4) (_backlight enable registerSelect : Bool) (s : State.Over E) :
    Host.Outcome (State.Over E) Fault Refusal :=
  perform (xwrite (nib ++ 0x0#4 : BitVec (4 + 4)) (if registerSelect then RS else 0x00) (if enable then EN else 0x00)) s

end Sys2Proof.Machine
end

