-- ==== Sys2Proof/Machine/Dispatch.lean ====
section
/-! DEFINITION. The dispatch: one arm per row of the opcode table, each one direct call of that row's meaning. -/

namespace Sys2Proof.Machine

def exec (i : Instr) (s : State) : Host.Outcome State Fault Refusal :=
  match i with
  | .clear => Sys2Proof.Machine.execClear s
  | .home => Sys2Proof.Machine.execHome s
  | .setCursor col row => Sys2Proof.Machine.execSetCursor col row s
  | .displayOn => Sys2Proof.Machine.execDisplayOn s
  | .displayOff => Sys2Proof.Machine.execDisplayOff s
  | .cursorOn => Sys2Proof.Machine.execCursorOn s
  | .cursorOff => Sys2Proof.Machine.execCursorOff s
  | .blinkOn => Sys2Proof.Machine.execBlinkOn s
  | .blinkOff => Sys2Proof.Machine.execBlinkOff s
  | .scrollLeft => Sys2Proof.Machine.execScrollLeft s
  | .scrollRight => Sys2Proof.Machine.execScrollRight s
  | .leftToRight => Sys2Proof.Machine.execLeftToRight s
  | .rightToLeft => Sys2Proof.Machine.execRightToLeft s
  | .autoscrollOn => Sys2Proof.Machine.execAutoscrollOn s
  | .autoscrollOff => Sys2Proof.Machine.execAutoscrollOff s
  | .createChar slot rows => Sys2Proof.Machine.execCreateChar slot rows s
  | .backlightOn => Sys2Proof.Machine.execBacklightOn s
  | .backlightOff => Sys2Proof.Machine.execBacklightOff s
  | .writeChar byte => Sys2Proof.Machine.execWriteChar byte s
  | .print text => Sys2Proof.Machine.execPrint text s
  | .start => Sys2Proof.Machine.execStart s
  | .stop => Sys2Proof.Machine.execStop s
  | .clearDisplay => Sys2Proof.Machine.execClearDisplay s
  | .returnHome => Sys2Proof.Machine.execReturnHome s
  | .entryModeSet d n => Sys2Proof.Machine.execEntryModeSet d n s
  | .displayControl d c b => Sys2Proof.Machine.execDisplayControl d c b s
  | .cursorShift m r => Sys2Proof.Machine.execCursorShift m r s
  | .functionSet w l f => Sys2Proof.Machine.execFunctionSet w l f s
  | .setCgramAddr slot => Sys2Proof.Machine.execSetCgramAddr slot s
  | .setDdramAddr address => Sys2Proof.Machine.execSetDdramAddr address s
  | .dataByte value => Sys2Proof.Machine.execDataByte value s
  | .expanderByte n l e r => Sys2Proof.Machine.execExpanderByte n l e r s

end Sys2Proof.Machine
end

