-- ==== Sys2Proof/Machine/Step.lean ====
section
/-! DEFINITION. One step of the machine: one whole operation (00_scope.md R4). The block has no program counter and fetches
nothing (10_state.md R40): the next operation is whatever the host presents next (R6). -/

namespace Sys2Proof.Machine

/-- One step: take the item presented, decode it, run it to its end. With nothing presented the block is idle and stays as
it is (R260; log 1). An item that decodes to nothing is refused (R103). -/
def step (s : State) : Host.Outcome State Fault Refusal :=
  match s.requests with
  | [] => .next s
  | r :: rest =>
    match decode r with
    | .error why => .refused (.undecodable why)
    | .ok i => exec i (s.setRequests rest)

/-- `s` with the table word `w` presented first, so that the next step runs exactly it (log 1). -/
def State.withFetchWord (s : State) (nbits w : Nat) : State := s.setRequests (tableRequest nbits w :: s.requests)

end Sys2Proof.Machine
end

