-- ==== Sys2Proof/Machine/Generic.lean ====
section
/-! DEFINITION. The machine over any error type. 00_scope.md R11 makes the type `TErr` of the transport's errors an argument
of the model ("the model is generic in it", 92_eei_decisions.md D21): every meaning takes it, and here are the dispatch and
the step that take it too. `exec` and `step` are these at the host's error type (Laws/Generic.lean; log 9). -/

namespace Sys2Proof.Machine

variable {E : Type}

/-- The dispatch, one arm per row, over any error type. -/
def execAt (i : Instr) (s : State.Over E) : Host.Outcome (State.Over E) Fault Refusal :=
  match i with
  | .clear => execClear s
  | .home => execHome s
  | .setCursor col row => execSetCursor col row s
  | .displayOn => execDisplayOn s
  | .displayOff => execDisplayOff s
  | .cursorOn => execCursorOn s
  | .cursorOff => execCursorOff s
  | .blinkOn => execBlinkOn s
  | .blinkOff => execBlinkOff s
  | .scrollLeft => execScrollLeft s
  | .scrollRight => execScrollRight s
  | .leftToRight => execLeftToRight s
  | .rightToLeft => execRightToLeft s
  | .autoscrollOn => execAutoscrollOn s
  | .autoscrollOff => execAutoscrollOff s
  | .createChar slot rows => execCreateChar slot rows s
  | .backlightOn => execBacklightOn s
  | .backlightOff => execBacklightOff s
  | .writeChar byte => execWriteChar byte s
  | .print text => execPrint text s
  | .start => execStart s
  | .stop => execStop s
  | .clearDisplay => execClearDisplay s
  | .returnHome => execReturnHome s
  | .entryModeSet d n => execEntryModeSet d n s
  | .displayControl d c b => execDisplayControl d c b s
  | .cursorShift m r => execCursorShift m r s
  | .functionSet w l f => execFunctionSet w l f s
  | .setCgramAddr slot => execSetCgramAddr slot s
  | .setDdramAddr address => execSetDdramAddr address s
  | .dataByte value => execDataByte value s
  | .expanderByte n l e r => execExpanderByte n l e r s

/-- One step over any error type (R4, R6; log 1). -/
def stepAt (s : State.Over E) : Host.Outcome (State.Over E) Fault Refusal :=
  match s.requests with
  | [] => .next s
  | r :: rest =>
    match decode r with
    | .error why => .refused (.undecodable why)
    | .ok i => execAt i (s.setRequests rest)

end Sys2Proof.Machine
end

