-- ==== Sys2Proof/Safety.lean ====
section
/-! DEFINITION. The words the statements use: the flat event scripts the spec writes out for a procedure or an operation and
how a script plays against the transport's answers, what a trace shows (its writes, its failures, its minimum delays, the
values a receiver reads back), and the properties a legal state has. None of it is used by the machine. -/

namespace Sys2Proof.Machine

variable {E : Type}

/-! ## Scripts: the event lists of the spec's rules -/

/-- One entry of a script: a register write, a bus write `W(d)`, a delay `T(name)`. -/
inductive Act where
  | put (d : Byte)
  | wait (t : Delay)
  | setPhase (p : Phase)
  | setFunc (v : Byte)
  | setDctl (v : Byte)
  | setEmode (v : Byte)
  | setBl (v : Byte)
  deriving DecidableEq, Repr

/-- A script played entry by entry: the first bus write that is answered `fail(e)` ends it (00_scope.md R18). -/
def State.Over.play : List Act → State.Over E → State.Over E × Option E
  | [], s => (s, none)
  | .put d :: rest, s =>
    match s.nextAnswer with
    | .ok => State.Over.play rest (s.recordWrite d .ok)
    | .fail e => (s.recordWrite d (.fail e), some e)
  | .wait t :: rest, s => State.Over.play rest (s.recordDelay t)
  | .setPhase p :: rest, s => State.Over.play rest (s.setPhase p)
  | .setFunc v :: rest, s => State.Over.play rest (s.setFunc v)
  | .setDctl v :: rest, s => State.Over.play rest (s.setDctl v)
  | .setEmode v :: rest, s => State.Over.play rest (s.setEmode v)
  | .setBl v :: rest, s => State.Over.play rest (s.setBl v)

/-- The state after a whole operation that a script describes: the script played, then `errs` as R9 says. -/
def State.Over.plays (s : State.Over E) (script : List Act) : State.Over E :=
  (s.play script).1.setErrs (s.play script).2.toList

/-- R122: `W(v | EN | BL); T(T_PULSE); W(v | BL); T(T_SETTLE)`. -/
def scriptPulse (bl v : Byte) : List Act :=
  [.put (v ||| EN ||| bl), .wait .tPulse, .put (v ||| bl), .wait .tSettle]

/-- R125: the eight events of a SEND, with `hi = v & 0xF0` and `lo = (v << 4) & 0xF0`. -/
def scriptSend (bl v rs : Byte) : List Act :=
  [.put ((v &&& 0xF0) ||| rs ||| EN ||| bl), .wait .tPulse, .put ((v &&& 0xF0) ||| rs ||| bl), .wait .tSettle,
   .put (((v <<< 4) &&& 0xF0) ||| rs ||| EN ||| bl), .wait .tPulse,
   .put (((v <<< 4) &&& 0xF0) ||| rs ||| bl), .wait .tSettle]

/-- The events of COMMAND (R127) and of DATA (R128). -/
def scriptCommand (bl c : Byte) : List Act := scriptSend bl c 0x00
def scriptData (bl c : Byte) : List Act := scriptSend bl c 0x01

/-- The events of a list of data bytes, in list order (R212). -/
def scriptDataList (bl : Byte) (cs : List Byte) : List Act := cs.flatMap (scriptData bl)

/-- A display-control operation (R180 to R186): DCTL is written, then the whole register is sent. -/
def scriptDctl (bl v : Byte) : List Act := .setDctl v :: scriptCommand bl (0x08 ||| v)

/-- An entry-mode operation (R180, R188 to R191): EMODE is written, then the whole register is sent. -/
def scriptEmode (bl v : Byte) : List Act := .setEmode v :: scriptCommand bl (0x04 ||| v)

/-- START (R140), written out: the register writes and events of its nine steps. -/
def scriptStart (c : DisplayConfig) (bl : Byte) : List Act :=
  let func := c.flags.mode4Bit ||| (if c.rows > 1 then c.flags.line2 else c.flags.line1)
    ||| (if c.rows = 1 ∧ c.dots = 10 then c.flags.dots5x10 else c.flags.dots5x8)
  [.setPhase .initializing, .wait .tPower, .put bl, .wait .tIdle]
  ++ scriptPulse bl 0x30 ++ [.wait .tInit1] ++ scriptPulse bl 0x30 ++ [.wait .tInit2]
  ++ scriptPulse bl 0x30 ++ [.wait .tInit3] ++ scriptPulse bl 0x20
  ++ .setFunc func :: scriptCommand bl (0x20 ||| func)
  ++ scriptDctl bl c.flags.displayOn
  ++ scriptCommand bl 0x01 ++ [.wait .tLong]
  ++ scriptEmode bl c.flags.entryLeft
  ++ scriptCommand bl 0x02 ++ [.wait .tLong, .setPhase .ready]

/-- How a procedure's end is seen as the end of a script. -/
def Result.played (r : Result E) : State.Over E × Option E :=
  match r with
  | .done s => (s, none)
  | .raised e s => (s, some e)

/-! ## What a trace shows -/

/-- The bytes written, in order, whatever was answered. -/
def writtenBytes : List (Event E) → List Byte
  | [] => []
  | .write _ d _ :: es => d :: writtenBytes es
  | .delay _ :: es => writtenBytes es

/-- The answers given, in order. -/
def answersGiven : List (Event E) → List (Answer E)
  | [] => []
  | .write _ _ a :: es => a :: answersGiven es
  | .delay _ :: es => answersGiven es

/-- The errors of the failed writes, in order. -/
def failures : List (Event E) → List E
  | [] => []
  | .write _ _ (.fail e) :: es => e :: failures es
  | .write _ _ .ok :: es => failures es
  | .delay _ :: es => failures es

/-- The sum of the minimum delays (R19, R281). -/
def minimumNs : List (Event E) → Nat
  | [] => 0
  | .write _ _ _ :: es => minimumNs es
  | .delay t :: es => t.minNs + minimumNs es

/-- The observation of a trace (R19): each write with the sum of the minimum delays just before it and with its answer, and
the sum after the last write. Neighbouring delays add. `before` is what has been waited so far. -/
def observe (before : Nat) : List (Event E) → List (Nat × Byte × Answer E) × Nat
  | [] => ([], before)
  | .delay t :: es => observe (before + t.minNs) es
  | .write _ d a :: es => ((before, d, a) :: (observe 0 es).1, (observe 0 es).2)

/-- R19: "Two traces are the same observation". -/
def SameObservation (es es' : List (Event E)) : Prop := observe 0 es = observe 0 es'

/-- Every write goes to the one address `ADDR` (20_memory.md R51). -/
def allToAddress (a : BusAddress) : List (Event E) → Bool
  | [] => true
  | .write a' _ _ :: es => a' == a && allToAddress a es
  | .delay _ :: es => allToAddress a es

/-- What must follow an enable-high write of `d` that was answered `ok` (R270, R271): T_PULSE, then the same byte with
enable low, then, if that was answered `ok`, T_SETTLE. -/
def completesPulse (d : Byte) : List (Event E) → Bool
  | .delay .tPulse :: .write _ d' .ok :: .delay .tSettle :: _ => d' == d &&& ~~~EN
  | [.delay .tPulse, .write _ d' (.fail _)] => d' == d &&& ~~~EN
  | .delay .tPulse :: .write _ d' (.fail _) :: _ :: _ => d' == d &&& ~~~EN
  | _ => false

/-- Every enable-high write that succeeded is completed as a pulse. -/
def pulsesTimed : List (Event E) → Bool
  | [] => true
  | .write _ d .ok :: es => (d &&& EN == 0x00 || completesPulse d es) && pulsesTimed es
  | .write _ _ (.fail _) :: es => pulsesTimed es
  | .delay _ :: es => pulsesTimed es

/-- What a receiver in 4-bit mode reads from a list of bytes: the values of the complete transfers, each with its
register-select, and the bytes left over from the first place where no complete transfer follows. A byte with enable low
that starts no pulse carries nothing (R193); four bytes high, low, high, low with the same register-select carry one value,
high nibble first (R53, R80, R84). -/
def readBack : List Byte → List (Bool × Byte) × List Byte
  | [] => ([], [])
  | d₁ :: ds =>
    if d₁.getLsbD 2 then
      match ds with
      | d₂ :: d₃ :: d₄ :: rest =>
        if d₂ == d₁ &&& ~~~EN && d₃.getLsbD 2 && d₄ == d₃ &&& ~~~EN && d₁.getLsbD 0 == d₃.getLsbD 0 then
          match readBack rest with
          | (vs, left) => ((d₁.getLsbD 0, (d₁.extractLsb' 4 4 ++ d₃.extractLsb' 4 4 : BitVec (4 + 4))) :: vs, left)
        else ([], d₁ :: ds)
      | _ => ([], d₁ :: ds)
    else readBack ds

/-- The bytes that were answered `ok`, in order, cut at every failed write: a failure ends a transfer (R18, R236). -/
def succeededRuns : List (Event E) → List (List Byte)
  | [] => [[]]
  | .delay _ :: es => succeededRuns es
  | .write _ _ (.fail _) :: es => [] :: succeededRuns es
  | .write _ d .ok :: es =>
    match succeededRuns es with
    | [] => [[d]]
    | run :: runs => (d :: run) :: runs

/-- How many of the bytes of an operation come before its 8-bit values: in START the idle byte (R143) and the four raw
nibble pulses (R144, R145, R97), in any other operation none. -/
def rawBytes : Instr → Nat
  | .start => 9
  | .clear | .home | .setCursor _ _ | .displayOn | .displayOff | .cursorOn | .cursorOff | .blinkOn | .blinkOff => 0
  | .scrollLeft | .scrollRight | .leftToRight | .rightToLeft | .autoscrollOn | .autoscrollOff | .writeChar _ => 0
  | .createChar _ _ | .backlightOn | .backlightOff | .print _ | .stop => 0
  | .clearDisplay | .returnHome | .entryModeSet _ _ | .displayControl _ _ _ | .cursorShift _ _ => 0
  | .functionSet _ _ _ | .setCgramAddr _ | .setDdramAddr _ | .dataByte _ | .expanderByte _ _ _ _ => 0

/-- The answer the `k`-th coming write will get (R7, R232). -/
def State.Over.answerAt (s : State.Over E) (k : Nat) : Answer E :=
  match s.answers[k]? with
  | some a => a
  | none => Config.transportAnswer E (s.draws + k)

/-- The next `n` writes all succeed. -/
def State.Over.succeeds (s : State.Over E) (n : Nat) : Prop := ∀ k, k < n → s.answerAt k = .ok

/-! ## Requests and operations -/

/-- The selector names the instruction, whatever the unused operands are (R101, R102). -/
def selects (sel : Byte) (i : Instr) : Prop :=
  ∀ (a b : Byte) (p : List Byte), decode (.operation (reqWord sel a b) p) = .ok i

/-- The bus writes of an instruction when all succeed (R233; a wire-level row as its procedure, R130). -/
def writeCount : Instr → Nat
  | .backlightOn | .backlightOff | .expanderByte _ _ _ _ => 1
  | .print text => 4 * text.length
  | .createChar _ rows => 4 + 4 * rows.length
  | .start => 29
  | .stop => 13
  | .clear | .home | .setCursor _ _ | .displayOn | .displayOff | .cursorOn | .cursorOff | .blinkOn | .blinkOff => 4
  | .scrollLeft | .scrollRight | .leftToRight | .rightToLeft | .autoscrollOn | .autoscrollOff | .writeChar _ => 4
  | .clearDisplay | .returnHome | .entryModeSet _ _ | .displayControl _ _ _ | .cursorShift _ _ => 4
  | .functionSet _ _ _ | .setCgramAddr _ | .setDdramAddr _ | .dataByte _ => 4

/-- The sum of the minimum delays of an instruction when all its writes succeed, in nanoseconds (R281, R130). -/
def delaySum : Instr → Nat
  | .backlightOn | .backlightOff | .expanderByte _ _ _ _ => 0
  | .print text => 74900 * text.length
  | .createChar _ rows => 74900 * (rows.length + 1)
  | .start => 1053674300
  | .stop => 2224700
  | .clear | .home => 2074900
  | .setCursor _ _ | .displayOn | .displayOff | .cursorOn | .cursorOff | .blinkOn | .blinkOff => 74900
  | .scrollLeft | .scrollRight | .leftToRight | .rightToLeft | .autoscrollOn | .autoscrollOff | .writeChar _ => 74900
  | .clearDisplay | .returnHome | .entryModeSet _ _ | .displayControl _ _ _ | .cursorShift _ _ => 74900
  | .functionSet _ _ _ | .setCgramAddr _ | .setDdramAddr _ | .dataByte _ => 74900

/-- The 8-bit values an operation sends when all its writes succeed, each with its register-select: the command bytes
(`false`) and the data bytes (`true`) of its rule. The backlight operations send none, and so does a wire-level row here. -/
def sentValues (i : Instr) (s : State.Over E) : List (Bool × Byte) :=
  match i with
  | .clear => [(false, 0x01)]
  | .home => [(false, 0x02)]
  | .setCursor col row =>
    [(false, 0x80 ||| (col + [0x00#8, 0x40#8, 0x14#8, 0x54#8].getD (min row.toNat (s.cfg.rows - 1)) 0x00))]
  | .scrollLeft => [(false, 0x10 ||| s.cfg.flags.displayMove ||| s.cfg.flags.moveLeft)]
  | .scrollRight => [(false, 0x10 ||| s.cfg.flags.displayMove ||| s.cfg.flags.moveRight)]
  | .displayOn => [(false, 0x08 ||| (s.dctl ||| s.cfg.flags.displayOn))]
  | .displayOff => [(false, 0x08 ||| (s.dctl &&& ~~~s.cfg.flags.displayOn))]
  | .cursorOn => [(false, 0x08 ||| (s.dctl ||| s.cfg.flags.cursorOn))]
  | .cursorOff => [(false, 0x08 ||| (s.dctl &&& ~~~s.cfg.flags.cursorOn))]
  | .blinkOn => [(false, 0x08 ||| (s.dctl ||| s.cfg.flags.blinkOn))]
  | .blinkOff => [(false, 0x08 ||| (s.dctl &&& ~~~s.cfg.flags.blinkOn))]
  | .leftToRight => [(false, 0x04 ||| (s.emode ||| s.cfg.flags.entryLeft))]
  | .rightToLeft => [(false, 0x04 ||| (s.emode &&& ~~~s.cfg.flags.entryLeft))]
  | .autoscrollOn => [(false, 0x04 ||| (s.emode ||| s.cfg.flags.entryShiftIncrement))]
  | .autoscrollOff => [(false, 0x04 ||| (s.emode &&& ~~~s.cfg.flags.entryShiftIncrement))]
  | .backlightOn | .backlightOff => []
  | .writeChar byte => [(true, byte)]
  | .print text => text.map (true, ·)
  | .createChar slot rows => (false, 0x40 ||| ((slot &&& 0x07) <<< 3)) :: rows.map (true, ·)
  | .start =>
    [(false, 0x20 ||| functionFlags s.cfg), (false, 0x08 ||| s.cfg.flags.displayOn), (false, 0x01),
     (false, 0x04 ||| s.cfg.flags.entryLeft), (false, 0x02)]
  | .stop =>
    [(false, 0x01), (false, 0x08 ||| (s.dctl &&& ~~~s.cfg.flags.cursorOn)),
     (false, 0x08 ||| (s.dctl &&& ~~~s.cfg.flags.cursorOn &&& ~~~s.cfg.flags.displayOn))]
  | .clearDisplay | .returnHome | .entryModeSet _ _ | .displayControl _ _ _ | .cursorShift _ _ => []
  | .functionSet _ _ _ | .setCgramAddr _ | .setDdramAddr _ | .dataByte _ | .expanderByte _ _ _ _ => []

/-- The outcome with its next state, if it has one, changed. -/
def mapNext {E' : Type} (f : State.Over E → State.Over E') (o : Host.Outcome (State.Over E) Fault Refusal) :
    Host.Outcome (State.Over E') Fault Refusal :=
  match o with
  | .next t => .next (f t)
  | .fault r => .fault r
  | .refused r => .refused r

/-! ## Renaming the transport's errors (R11, R231: the type is opaque to the block) -/

def renameAnswer {E' : Type} (f : E → E') : Answer E → Answer E'
  | .ok => .ok
  | .fail e => .fail (f e)

def renameEvent {E' : Type} (f : E → E') : Event E → Event E'
  | .write addr d a => .write addr d (renameAnswer f a)
  | .delay t => .delay t

/-- The same state with every error value replaced, in the trace, in the response and in the scripted answers. -/
def State.Over.rename {E' : Type} (f : E → E') (s : State.Over E) : State.Over E' where
  cfg := s.cfg
  phase := s.phase
  func := s.func
  dctl := s.dctl
  emode := s.emode
  bl := s.bl
  trace := s.trace.map (renameEvent f)
  errs := s.errs.map f
  requests := s.requests
  answers := s.answers.map (renameAnswer f)
  draws := s.draws
  lines := s.lines

/-- The same state with another column count. -/
def State.Over.withCols (s : State.Over E) (n : Nat) : State.Over E := { s with cfg := { s.cfg with cols := n } }

/-! ## Legal states -/

/-- The registers hold legal values (R25 to R28) under an admitted configuration (R22). -/
def State.Over.Legal (s : State.Over E) : Prop :=
  s.cfg.wellFormed = true ∧ s.func &&& 0xE0 = 0x00 ∧ s.dctl &&& 0xF8 = 0x00 ∧ s.emode &&& 0xFC = 0x00 ∧
  (s.bl = 0x00 ∨ s.bl = 0x08)

/-- "functionFlags reflects reality only if initialization completed" (R25): in `Ready` FUNC is what START step 5 sets. -/
def State.Over.FunctionSet (s : State.Over E) : Prop := s.phase = .ready → s.func = functionFlags s.cfg

/-- The trace is what this block can have written: every write to `ADDR` (R51), never RW set (R81), and as many writes as
the counter `draws` says (log 3). -/
def State.Over.TraceSound (s : State.Over E) : Prop :=
  allToAddress s.cfg.addr s.trace = true ∧ (∀ d ∈ writtenBytes s.trace, d &&& 0x02 = 0x00) ∧
  s.draws = (writtenBytes s.trace).length

/-- Everything but the interfaces' ends: what a frame says is unchanged. -/
def SameRegisters (s t : State.Over E) : Prop :=
  t.phase = s.phase ∧ t.func = s.func ∧ t.dctl = s.dctl ∧ t.emode = s.emode ∧ t.bl = s.bl

end Sys2Proof.Machine
end

