-- ==== Sys2Proof/Certificates/Slice0/Obligations.lean ====
section
/-! DEFINITION. The statements for the provers. `s.plays script` is the whole next state, so a statement of that form gives
an instruction's result, its frame and its completion for every pattern of transport answers at once. -/

open Sys2Proof Sys2Proof.Machine

/-! ## Reset and configuration -/

/-- R32, R260, for every type of the transport's errors (R11). FUNC, DCTL and EMODE at 0x00 are the spec's choice D5; the
empty interfaces are the model's (log 1, 3, 10). -/
def Obligations.ConstructionLeavesTheResetState : Prop :=
  ∀ (E : Type) (cfg : DisplayConfig) (backlit : Bool) (lines : Byte), cfg.wellFormed = true →
    ∃ s : State.Over E, State.Over.construct cfg backlit lines = some s ∧ s.cfg = cfg ∧ s.phase = .uninitialized ∧
      s.func = 0x00 ∧ s.dctl = 0x00 ∧ s.emode = 0x00 ∧ s.bl = (if backlit then 0x08 else 0x00) ∧
      s.trace = [] ∧ s.errs = [] ∧ s.requests = [] ∧ s.lines = lines

/-- Every constructed block, and the reset state, meets the invariants `Legal`, `FunctionSet` and `TraceSound`. It rests
on choices: FUNC, DCTL and EMODE at 0x00 are the spec's decision D5 (log 8), the counter `draws` at 0 in TraceSound is
the model's own (log 3, DESIGN CHOICE; the empty trace is R260's, its place in State log 10), and of `State.reset` the
configuration is log 7 with the flag constants of log 6 (PRESUMED), BL = 0x00 is log 8 (DESIGN CHOICE; D6 leaves it
open). That the configuration is checked at construction is D10 with log 13. -/
def Obligations.ConstructedStatesAreLegal : Prop :=
  (∀ (E : Type) (cfg : DisplayConfig) (backlit : Bool) (lines : Byte) (s : State.Over E),
    State.Over.construct cfg backlit lines = some s → s.Legal ∧ s.FunctionSet ∧ s.TraceSound) ∧
  State.reset.Legal ∧ State.reset.FunctionSet ∧ State.reset.TraceSound

/-- R22, V-R4: an ill-formed configuration has no block, and nothing runs under one (the spec's decision D10). -/
def Obligations.IllFormedConfigurationIsRefused : Prop :=
  ∀ cfg : DisplayConfig, cfg.rows = 0 ∨ 4 < cfg.rows ∨ (cfg.dots ≠ 8 ∧ cfg.dots ≠ 10) →
    (∀ (E : Type) (backlit : Bool) (lines : Byte), State.Over.construct (E := E) cfg backlit lines = none) ∧
    ∀ (i : Instr) (s : State), s.cfg = cfg → exec i s = .refused .illFormedConfiguration

/-! ## Requests, decoding, the step -/

/-- A step runs the instruction presented first, whole (R4, R40), on the state with that item taken away. That what is
presented waits in a list whose first item a step takes is the model's choice (log 1, DESIGN CHOICE; R6 gives no queue and
N24 forbids assuming one); so are `withFetchWord` with `tableRequest` (log 1) and how a bare byte is read and run (log 2,
DESIGN CHOICE). -/
def Obligations.StepRunsThePresentedRequest : Prop :=
  (∀ (s : State) (r : Request) (rest : List Request) (i : Instr),
    s.requests = r :: rest → decode r = .ok i → step s = exec i (s.setRequests rest)) ∧
  ∀ (s : State) (nbits w : Nat) (i : Instr),
    decodeTableWord nbits w = some i → step (s.withFetchWord nbits w) = exec i s

/-- With nothing presented the block stays idle (the model's choice, log 1). -/
def Obligations.IdleStepChangesNothing : Prop :=
  ∀ s : State, s.requests = [] → step s = .next s

/-- R101, R102: the selector table, whatever the unused operands and payload are (the spec's encoding, D4). -/
def Obligations.SelectorsNameTheOperations : Prop :=
  selects 0x01 .clear ∧ selects 0x02 .home ∧ selects 0x04 .displayOn ∧ selects 0x05 .displayOff ∧
  selects 0x06 .cursorOn ∧ selects 0x07 .cursorOff ∧ selects 0x08 .blinkOn ∧ selects 0x09 .blinkOff ∧
  selects 0x0A .scrollLeft ∧ selects 0x0B .scrollRight ∧ selects 0x0C .leftToRight ∧ selects 0x0D .rightToLeft ∧
  selects 0x0E .autoscrollOn ∧ selects 0x0F .autoscrollOff ∧ selects 0x11 .backlightOn ∧
  selects 0x12 .backlightOff ∧ selects 0x15 .start ∧ selects 0x16 .stop ∧
  ∀ (a b : Byte) (p : List Byte),
    decode (.operation (reqWord 0x03 a b) p) = .ok (.setCursor a b) ∧
    decode (.operation (reqWord 0x10 a b) p) = .ok (.createChar a p) ∧
    decode (.operation (reqWord 0x13 a b) p) = .ok (.writeChar a) ∧
    decode (.operation (reqWord 0x14 a b) p) = .ok (.print p)

/-- R103: `sel` = 0x00 and 0x17 to 0xFF name no operation, and a step that meets one is refused (the spec's decision D4). -/
def Obligations.UnassignedSelectorsAreRefused : Prop :=
  ∀ (w : BitVec 24) (p : List Byte), reqSelector w = 0x00 ∨ 0x17 ≤ (reqSelector w).toNat →
    decode (.operation w p) = .error (.unassignedSelector (reqSelector w)) ∧
    ∀ (s : State) (rest : List Request), s.requests = .operation w p :: rest →
      step s = .refused (.undecodable (.unassignedSelector (reqSelector w)))

/-- Decoding the encoding of any row of the table gives the row back, with every operand. The request word is the spec's
decision D4 (log 15), the field positions of the CMD8 rows are log 6 (PRESUMED). -/
def Obligations.EncodeThenDecodeGivesTheInstruction : Prop :=
  ∀ i : Instr, decode (encode i) = .ok i

/-- The other direction for the inner layers' bytes: a byte that decodes is the encoding of what it decodes to, so each
has one meaning (field positions: log 6, PRESUMED; the inner entries: log 2). -/
def Obligations.InnerBytesHaveOneMeaning : Prop :=
  ∀ (r : Request) (i : Instr), r.fromHost = false → decode r = .ok i → encode i = r ∧ i.isOperation = false

/-- Words written out from 30_encoding.md and 95_test_vectors.md decode to what they stand for. The request words rest
on the spec's decision D4 (log 15, DEDUCED), the field positions of the two command bytes on log 6 (PRESUMED). -/
def Obligations.WrittenOutWordsDecode : Prop :=
  decodeTableWord 24 0x010000 = some .clear ∧ decodeTableWord 24 0x0100FF = some .clear ∧
  decodeTableWord 24 0x030F05 = some (.setCursor 0x0F 0x05) ∧ decodeTableWord 24 0x0E0000 = some .autoscrollOn ∧
  decodeTableWord 24 0x134800 = some (.writeChar 0x48) ∧ decodeTableWord 24 0x150000 = some .start ∧
  decodeTableWord 24 0x000000 = none ∧ decodeTableWord 24 0xFF1234 = none ∧
  decode (.command 0b00001110#8) = .ok (.displayControl true true false) ∧
  decode (.command 0b01010000#8) = .ok (.setCgramAddr 2) ∧
  decode (.expander 0b00111100#8) = .ok (.expanderByte 0x3 true true false)

/-! ## The transfer layers -/

/-- R80, R82: where the four parts of an expander byte stand, and that XWRITE writes exactly that byte. -/
def Obligations.ExpanderByteIsComposed : Prop :=
  ∀ (E : Type) (n : BitVec 4) (rs en bl : Bool) (s : State.Over E), s.bl = (if bl then 0x08 else 0x00) →
    (xwrite (n ++ 0x0#4 : BitVec (4 + 4)) (if rs then 0x01 else 0x00) (if en then 0x04 else 0x00) s).played =
      s.play [.put (n ++ BitVec.ofBool bl ++ BitVec.ofBool en ++ 0#1 ++ BitVec.ofBool rs : BitVec (4 + 1 + 1 + 1 + 1))]

/-- R122, R123: a pulse is the enable-high write, T_PULSE, the same byte with enable low, T_SETTLE, up to the first failure;
NIBBLE is a pulse of its nibble (that each raw nibble is sent as a full pulse is R124, which the spec marks derived: log 15,
DEDUCED). -/
def Obligations.PulseWritesHighThenLow : Prop :=
  ∀ (E : Type) (v : Byte) (s : State.Over E), v &&& 0x0E = 0x00 →
    (pulse v s).played = s.play (scriptPulse s.bl v) ∧ (nibble v s).played = s.play (scriptPulse s.bl v)

/-- R125 to R128: SEND is four writes and four delays, the high nibble first, up to the first failure; COMMAND sends with
register-select 0, DATA with register-select 1; for every value. -/
def Obligations.SendWritesHighNibbleFirst : Prop :=
  ∀ (E : Type) (v : Byte) (s : State.Over E),
    (send v 0x00 s).played = s.play (scriptSend s.bl v 0x00) ∧
    (send v 0x01 s).played = s.play (scriptSend s.bl v 0x01) ∧
    (command v s).played = s.play (scriptSend s.bl v 0x00) ∧
    (data v s).played = s.play (scriptSend s.bl v 0x01)

/-! ## Display operations -/

/-- R160, R162. -/
def Obligations.ClearAndHomeSendThenSettle : Prop :=
  selects 0x01 .clear ∧ selects 0x02 .home ∧ ∀ s : State, s.cfg.wellFormed = true →
    exec .clear s = .next (s.plays (scriptCommand s.bl 0x01 ++ [.wait .tLong])) ∧
    exec .home s = .next (s.plays (scriptCommand s.bl 0x02 ++ [.wait .tLong]))

/-- R168, R169. -/
def Obligations.ScrollSendsItsCommand : Prop :=
  selects 0x0A .scrollLeft ∧ selects 0x0B .scrollRight ∧ ∀ s : State, s.cfg.wellFormed = true →
    exec .scrollLeft s =
      .next (s.plays (scriptCommand s.bl (0x10 ||| s.cfg.flags.displayMove ||| s.cfg.flags.moveLeft))) ∧
    exec .scrollRight s =
      .next (s.plays (scriptCommand s.bl (0x10 ||| s.cfg.flags.displayMove ||| s.cfg.flags.moveRight)))

/-- R164, R166: the byte SETCURSOR sends, as a number: the address field is the sum modulo 128. The 8-bit reading of the
operands and of the sum is the spec's decision D9. -/
def Obligations.SetCursorSendsTheAddress : Prop :=
  ∀ (s : State) (col row : Byte), s.cfg.wellFormed = true →
    ∃ (r base : Nat) (c : Byte), r = (if row.toNat < s.cfg.rows then row.toNat else s.cfg.rows - 1) ∧
      (r = 0 ∧ base = 0x00 ∨ r = 1 ∧ base = 0x40 ∨ r = 2 ∧ base = 0x14 ∨ r = 3 ∧ base = 0x54) ∧
      c.toNat = 128 + (col.toNat + base) % 128 ∧
      exec (.setCursor col row) s = .next (s.plays (scriptCommand s.bl c))

/-- R165: the clamp compares the row with ROWS; a clamped row acts as the last row, a row below ROWS is itself, and the
index is always inside the table. -/
def Obligations.SetCursorClampsTheRow : Prop :=
  ∀ (s : State) (col row : Byte), s.cfg.wellFormed = true →
    (s.cfg.rows ≤ row.toNat → exec (.setCursor col row) s = exec (.setCursor col (BitVec.ofNat 8 (s.cfg.rows - 1))) s) ∧
    (row.toNat < s.cfg.rows → clampRow s.cfg.rows row = row.toNat) ∧
    clampRow s.cfg.rows row < rowBaseTable.length

/-! ## Mode operations -/

/-- R181 to R186, with R43: the register is written first, then the whole register is sent. That ON sets and OFF clears the
bit, where the source says toggle, is the spec's decision D7 (R180; log 15, DEDUCED). -/
def Obligations.DisplayControlOperationsResendDctl : Prop :=
  selects 0x04 .displayOn ∧ selects 0x05 .displayOff ∧ selects 0x06 .cursorOn ∧ selects 0x07 .cursorOff ∧
  selects 0x08 .blinkOn ∧ selects 0x09 .blinkOff ∧
  ∀ s : State, s.cfg.wellFormed = true →
    exec .displayOn s = .next (s.plays (scriptDctl s.bl (s.dctl ||| s.cfg.flags.displayOn))) ∧
    exec .displayOff s = .next (s.plays (scriptDctl s.bl (s.dctl &&& ~~~s.cfg.flags.displayOn))) ∧
    exec .cursorOn s = .next (s.plays (scriptDctl s.bl (s.dctl ||| s.cfg.flags.cursorOn))) ∧
    exec .cursorOff s = .next (s.plays (scriptDctl s.bl (s.dctl &&& ~~~s.cfg.flags.cursorOn))) ∧
    exec .blinkOn s = .next (s.plays (scriptDctl s.bl (s.dctl ||| s.cfg.flags.blinkOn))) ∧
    exec .blinkOff s = .next (s.plays (scriptDctl s.bl (s.dctl &&& ~~~s.cfg.flags.blinkOn)))

/-- R188 to R191, with R43. That LEFT_TO_RIGHT and AUTOSCROLL_ON set and the other two clear the bit, where the source says
toggle, is the spec's decision D7 (R180; log 15, DEDUCED). -/
def Obligations.EntryModeOperationsResendEmode : Prop :=
  selects 0x0C .leftToRight ∧ selects 0x0D .rightToLeft ∧ selects 0x0E .autoscrollOn ∧ selects 0x0F .autoscrollOff ∧
  ∀ s : State, s.cfg.wellFormed = true →
    exec .leftToRight s = .next (s.plays (scriptEmode s.bl (s.emode ||| s.cfg.flags.entryLeft))) ∧
    exec .rightToLeft s = .next (s.plays (scriptEmode s.bl (s.emode &&& ~~~s.cfg.flags.entryLeft))) ∧
    exec .autoscrollOn s = .next (s.plays (scriptEmode s.bl (s.emode ||| s.cfg.flags.entryShiftIncrement))) ∧
    exec .autoscrollOff s = .next (s.plays (scriptEmode s.bl (s.emode &&& ~~~s.cfg.flags.entryShiftIncrement)))

/-- R194, R195: BL is written, then one bare byte of the new BL; no pulse, no delay. -/
def Obligations.BacklightOperationsWriteOneByte : Prop :=
  selects 0x11 .backlightOn ∧ selects 0x12 .backlightOff ∧ ∀ s : State, s.cfg.wellFormed = true →
    exec .backlightOn s = .next (s.plays [.setBl 0x08, .put 0x08]) ∧
    exec .backlightOff s = .next (s.plays [.setBl 0x00, .put 0x00])

/-- R180, R238: issuing a mode operation again leaves every register as the first time left it, whatever either run's
writes were answered (the on/off reading of "toggle" is the spec's decision D7). -/
def Obligations.ReissuedModeOperationKeepsTheRegisters : Prop :=
  ∀ (i : Instr) (s t u : State),
    i ∈ [.displayOn, .displayOff, .cursorOn, .cursorOff, .blinkOn, .blinkOff, .leftToRight, .rightToLeft,
      .autoscrollOn, .autoscrollOff, .backlightOn, .backlightOff] →
    exec i s = .next t → exec i t = .next u → SameRegisters t u

/-! ## Data operations -/

/-- R210. -/
def Obligations.WriteCharSendsOneDataByte : Prop :=
  (∀ a b p, decode (.operation (reqWord 0x13 a b) p) = .ok (.writeChar a)) ∧
  ∀ (s : State) (byte : Byte), s.cfg.wellFormed = true →
    exec (.writeChar byte) s = .next (s.plays (scriptData s.bl byte))

/-- R212: the bytes in list order, up to the first failure; nothing at all for an empty text. -/
def Obligations.PrintSendsItsBytesInOrder : Prop :=
  (∀ a b p, decode (.operation (reqWord 0x14 a b) p) = .ok (.print p)) ∧
  ∀ (s : State) (text : List Byte), s.cfg.wellFormed = true →
    exec (.print text) s = .next (s.plays (scriptDataList s.bl text)) ∧
    exec (.print []) s = .next (s.setErrs [])

/-- R106 (a): PRINT is WRITE_CHAR of each byte, stopped at the first failure. -/
def Obligations.PrintIsRepeatedWriteChar : Prop :=
  ∀ (c : Byte) (cs : List Byte) (s t : State), exec (.writeChar c) s = .next t →
    (t.errs = [] → exec (.print (c :: cs)) s = exec (.print cs) t) ∧
    (t.errs ≠ [] → exec (.print (c :: cs)) s = .next t)

/-- R216: the address command, then one data byte per row of the payload, in order, up to the first failure. -/
def Obligations.CreateCharSendsAddressThenRows : Prop :=
  (∀ a b p, decode (.operation (reqWord 0x10 a b) p) = .ok (.createChar a p)) ∧
  ∀ (s : State) (slot : Byte) (rows : List Byte), s.cfg.wellFormed = true →
    exec (.createChar slot rows) s =
      .next (s.plays (scriptCommand s.bl (0x40 ||| ((slot &&& 0x07) <<< 3)) ++ scriptDataList s.bl rows))

/-- R217: only the low three bits of the slot are significant. -/
def Obligations.CreateCharMasksTheSlot : Prop :=
  ∀ (s : State) (slot slot' : Byte) (rows : List Byte), slot &&& 0x07 = slot' &&& 0x07 →
    exec (.createChar slot rows) s = exec (.createChar slot' rows) s

/-! ## START -/

/-- R140 to R152: START plays its nine steps, written out in `scriptStart`, up to the first failure (where PHASE changes is
the spec's decision D12). -/
def Obligations.StartPlaysTheNineSteps : Prop :=
  selects 0x15 .start ∧ ∀ s : State, s.cfg.wellFormed = true → s.phase = .uninitialized →
    exec .start s = .next (s.plays (scriptStart s.cfg s.bl))

/-- R154: outside `Uninitialized` START is refused (the spec's decision D11). -/
def Obligations.StartIsRefusedOutsideUninitialized : Prop :=
  ∀ s : State, s.cfg.wellFormed = true → s.phase ≠ .uninitialized → exec .start s = .refused (.startNotAdmitted s.phase)

/-- R151, R152, R268: what START leaves: `Ready` and the three registers on success, `Initializing` and one error on a
failure; BL either way as it was (the phases are the spec's decisions D11, D12). -/
def Obligations.StartEndsReadyOrInitializing : Prop :=
  ∀ s : State, s.cfg.wellFormed = true → s.phase = .uninitialized →
    ∃ t, exec .start s = .next t ∧ t.bl = s.bl ∧
      (t.errs = [] ∧ t.phase = .ready ∧ t.func = functionFlags s.cfg ∧ t.dctl = s.cfg.flags.displayOn ∧
          t.emode = s.cfg.flags.entryLeft ∨
        (∃ e, t.errs = [e]) ∧ t.phase = .initializing)

/-- R146: the function-set register by ROWS and DOTS, with the default flag constants (log 6). -/
def Obligations.FunctionFlagsFollowRowsAndDots : Prop :=
  ∀ c : DisplayConfig, c.wellFormed = true → c.flags = FlagConstants.default →
    (c.rows = 1 → c.dots = 8 → functionFlags c = 0x00) ∧ (c.rows = 1 → c.dots = 10 → functionFlags c = 0x04) ∧
    (1 < c.rows → functionFlags c = 0x08)

/-- R153, R273: the observation (R19) of a START whose 29 writes all succeed: each byte with the minimum time waited just
before it and with its answer `ok`, then the time waited after the last; with the default flag constants (log 6). -/
def Obligations.SuccessfulStartIsObservedWhole : Prop :=
  ∀ s : State, s.cfg.wellFormed = true → s.cfg.flags = FlagConstants.default → s.phase = .uninitialized →
    s.succeeds 29 →
    ∃ t evs, exec .start s = .next t ∧ t.errs = [] ∧ t.trace = s.trace ++ evs ∧
      observe 0 evs =
        (([(40000000, s.bl),
          (1000000000, 0x34 ||| s.bl), (450, 0x30 ||| s.bl),
          (4537000, 0x34 ||| s.bl), (450, 0x30 ||| s.bl),
          (4537000, 0x34 ||| s.bl), (450, 0x30 ||| s.bl),
          (187000, 0x24 ||| s.bl), (450, 0x20 ||| s.bl),
          (37000, 0x24 ||| s.bl), (450, 0x20 ||| s.bl),
          (37000, (functionFlags s.cfg <<< 4) ||| 0x04 ||| s.bl), (450, (functionFlags s.cfg <<< 4) ||| s.bl),
          (37000, 0x04 ||| s.bl), (450, s.bl), (37000, 0xC4 ||| s.bl), (450, 0xC0 ||| s.bl),
          (37000, 0x04 ||| s.bl), (450, s.bl), (37000, 0x14 ||| s.bl), (450, 0x10 ||| s.bl),
          (2037000, 0x04 ||| s.bl), (450, s.bl), (37000, 0x64 ||| s.bl), (450, 0x60 ||| s.bl),
          (37000, 0x04 ||| s.bl), (450, s.bl), (37000, 0x24 ||| s.bl), (450, 0x20 ||| s.bl)] : List (Nat × Byte)).map
            (fun w => (w.1, w.2, .ok)), 2037000)

/-! ## STOP -/

/-- R156, R158, R106 (b): STOP is CLEAR, BACKLIGHT_OFF, CURSOR_OFF, DISPLAY_OFF, every one attempted, with their errors
joined in that order. -/
def Obligations.StopIsItsFourParts : Prop :=
  ∀ s t₁ t₂ t₃ t₄ : State, exec .clear s = .next t₁ → exec .backlightOff t₁ = .next t₂ →
    exec .cursorOff t₂ = .next t₃ → exec .displayOff t₃ = .next t₄ →
    exec .stop s = .next (t₄.setErrs (t₁.errs ++ t₂.errs ++ t₃.errs ++ t₄.errs))

/-- R157: what STOP leaves, whatever failed: of DCTL only the blink bit stays (that PHASE stays is the spec's decision
D20). -/
def Obligations.StopEndsDark : Prop :=
  selects 0x16 .stop ∧ ∀ s : State, s.Legal →
    ∃ t, exec .stop s = .next t ∧ t.bl = 0x00 ∧ t.dctl = s.dctl &&& s.cfg.flags.blinkOn ∧ t.func = s.func ∧
      t.emode = s.emode ∧ t.phase = s.phase ∧ t.errs.length ≤ 4

/-! ## The wire-level rows -/

/-- Each wire-level row sends its byte as the internal procedure of its layer does (the model's choice to run them
alone, log 2; the field positions of the CMD8 rows are log 6, PRESUMED): the command bytes of R86 to R94 by COMMAND, the
data byte by DATA, the expander byte by XWRITE. -/
def Obligations.WireRowsSendTheirByte : Prop :=
  ∀ s : State, s.cfg.wellFormed = true →
    exec .clearDisplay s = .next (s.plays (scriptCommand s.bl 0x01)) ∧
    exec .returnHome s = .next (s.plays (scriptCommand s.bl 0x02)) ∧
    (∀ d i : Bool, exec (.entryModeSet d i) s =
      .next (s.plays (scriptCommand s.bl (0x04 ||| (if d then 0x02 else 0x00) ||| (if i then 0x01 else 0x00))))) ∧
    (∀ d c b : Bool, exec (.displayControl d c b) s =
      .next (s.plays (scriptCommand s.bl
        (0x08 ||| (if d then 0x04 else 0x00) ||| (if c then 0x02 else 0x00) ||| (if b then 0x01 else 0x00))))) ∧
    (∀ m r : Bool, exec (.cursorShift m r) s =
      .next (s.plays (scriptCommand s.bl (0x10 ||| (if m then 0x08 else 0x00) ||| (if r then 0x04 else 0x00))))) ∧
    (∀ w l f : Bool, exec (.functionSet w l f) s =
      .next (s.plays (scriptCommand s.bl
        (0x20 ||| (if w then 0x10 else 0x00) ||| (if l then 0x08 else 0x00) ||| (if f then 0x04 else 0x00))))) ∧
    (∀ slot : BitVec 3, exec (.setCgramAddr slot) s =
      .next (s.plays (scriptCommand s.bl (0x40 ||| (slot.zeroExtend 8 <<< 3))))) ∧
    (∀ a : BitVec 7, exec (.setDdramAddr a) s = .next (s.plays (scriptCommand s.bl (0x80 ||| a.zeroExtend 8)))) ∧
    (∀ v : Byte, exec (.dataByte v) s = .next (s.plays (scriptData s.bl v))) ∧
    ∀ (n : BitVec 4) (l e r : Bool), exec (.expanderByte n l e r) s =
      .next (s.plays
        [.put ((n.zeroExtend 8 <<< 4) ||| (if e then 0x04 else 0x00) ||| (if r then 0x01 else 0x00) ||| s.bl)])

/-! ## Whole-machine rules

A statement over every `i : Instr` takes in the wire-level rows, which run alone by the model's choice (log 2). -/

/-- R155, R234, R9: under an admitted configuration every instruction runs to its end in every state, whatever the
transport answers and whatever the operands are; only START asks for a phase (D8, D11; the wire-level rows: log 2). At
most one error, four for STOP. -/
def Obligations.EveryAdmittedInstructionCompletes : Prop :=
  ∀ (i : Instr) (s : State), s.cfg.wellFormed = true → (i = .start → s.phase = .uninitialized) →
    ∃ t, exec i s = .next t ∧ t.errs.length ≤ (if i = .stop then 4 else 1)

/-- R25 to R28: every step keeps the mode registers legal. -/
def Obligations.EveryStepKeepsLegalRegisters : Prop :=
  ∀ s t : State, s.Legal → step s = .next t → t.Legal

/-- R25: in `Ready` FUNC is the function-set value of the configuration; every step keeps that. -/
def Obligations.ReadyMeansFunctionSetHolds : Prop :=
  ∀ s t : State, s.FunctionSet → step s = .next t → t.FunctionSet

/-- R24: only START writes PHASE and no other instruction reads it. That START changes it from `Uninitialized` only is
R154, the spec's decision D11 (log 15, DEDUCED); the wire-level rows run as log 2 says. -/
def Obligations.PhaseMovesForwardByStartOnly : Prop :=
  (∀ (i : Instr) (s t : State), exec i s = .next t →
    t.phase = s.phase ∨ i = .start ∧ s.phase = .uninitialized ∧ (t.phase = .initializing ∨ t.phase = .ready)) ∧
  ∀ (i : Instr) (s : State) (p : Phase), i ≠ .start →
    exec i (s.setPhase p) = mapNext (fun t => t.setPhase p) (exec i s)

/-- R30: which instruction may write which register; nothing writes the configuration (R20) or, of the model's own, what is
presented (log 1); the wire-level rows write none (log 2). -/
def Obligations.RegistersAreWrittenOnlyAsTabled : Prop :=
  ∀ (i : Instr) (s t : State), exec i s = .next t →
    t.cfg = s.cfg ∧ t.requests = s.requests ∧
    (i ≠ .start → t.phase = s.phase ∧ t.func = s.func) ∧
    (i ∉ [.start, .stop, .displayOn, .displayOff, .cursorOn, .cursorOff, .blinkOn, .blinkOff] → t.dctl = s.dctl) ∧
    (i ∉ [.start, .leftToRight, .rightToLeft, .autoscrollOn, .autoscrollOff] → t.emode = s.emode) ∧
    (i ∉ [.stop, .backlightOn, .backlightOff] → t.bl = s.bl)

/-- R63, R7, R51, R232: the trace only grows; each write goes to ADDR and takes the transport's next answer. The counter
`draws` and the scripted `answers`, and how they advance, are the model's own fields (log 3, DESIGN CHOICE); the wire-level
rows run as log 2 says. -/
def Obligations.EveryWriteIsTracedAndAnswered : Prop :=
  ∀ (i : Instr) (s t : State), exec i s = .next t →
    ∃ evs, t.trace = s.trace ++ evs ∧ allToAddress s.cfg.addr evs = true ∧
      t.draws = s.draws + (writtenBytes evs).length ∧
      t.answers = s.answers.drop (writtenBytes evs).length ∧
      answersGiven evs = (List.range (writtenBytes evs).length).map s.answerAt

/-- R235: the errors returned are those of the failed writes, in trace order; in every instruction but STOP the first
failure is the last event and there is no second (the wire-level rows as well, which run as log 2 says). -/
def Obligations.TheFirstFailureEndsTheOperation : Prop :=
  ∀ (i : Instr) (s t : State), exec i s = .next t →
    ∃ evs, t.trace = s.trace ++ evs ∧ t.errs = failures evs ∧
      (i ≠ .stop → failures evs = [] ∨
        ∃ before d e, evs = before ++ [.write s.cfg.addr d (.fail e)] ∧ failures before = [])

/-- R121: every byte written carries the backlight flag in bit 3; the bytes of STOP's first part carry the old one, all
later ones 0 (R158); the wire-level rows run as log 2 says. -/
def Obligations.EveryByteCarriesTheBacklight : Prop :=
  ∀ (i : Instr) (s t : State), s.Legal → exec i s = .next t →
    ∃ first later, t.trace = s.trace ++ (first ++ later) ∧
      (∀ d ∈ writtenBytes first, d &&& 0x08 = s.bl) ∧ (∀ d ∈ writtenBytes later, d &&& 0x08 = t.bl) ∧
      (i = .stop → writtenBytes first ≠ [] ∧ writtenBytes later ≠ []) ∧ (i ≠ .stop → first = [])

/-- R81: the control bits' masks, and that the block never sets RW (in the wire-level rows as well, log 2). -/
def Obligations.ReadWriteBitIsNeverSet : Prop :=
  RS = 0x01 ∧ RW = 0x02 ∧ EN = 0x04 ∧ BACKLIGHT = 0x08 ∧
  ∀ (i : Instr) (s t : State), s.Legal → exec i s = .next t →
    ∃ evs, t.trace = s.trace ++ evs ∧ ∀ d ∈ writtenBytes evs, d &&& 0x02 = 0x00

/-- R270, R271, with R122, R123 and R236 (a): in every operation, after an enable-high write answered `ok` comes
T_PULSE, then the same byte with enable low, and after that write, if it was answered `ok`, T_SETTLE, before anything
else. R271's sentence has no exception; that a failed write is followed by no further delay of its pulse is R123 and
R236 (a) (V-L9: in STOP a failed enable-low write is followed at once by the next part's). -/
def Obligations.EnablePulsesAreTimed : Prop :=
  ∀ (i : Instr) (s t : State), i.isOperation = true → s.Legal → exec i s = .next t →
    ∃ evs, t.trace = s.trace ++ evs ∧ pulsesTimed evs = true

/-- R233, R281: the writes and the sum of the minimum delays of an instruction that succeeds, and that it succeeds when
the transport answers that many writes with ok (a wire-level row as its procedure, R130 and log 2). -/
def Obligations.WritesAndDelaysAreAsTabled : Prop :=
  (∀ (i : Instr) (s t : State), exec i s = .next t → t.errs = [] →
    ∃ evs, t.trace = s.trace ++ evs ∧ (writtenBytes evs).length = writeCount i ∧ minimumNs evs = delaySum i) ∧
  ∀ (i : Instr) (s : State), s.cfg.wellFormed = true → (i = .start → s.phase = .uninitialized) →
    s.succeeds (writeCount i) → ∃ t, exec i s = .next t ∧ t.errs = []

/-- R280: the hard minimums, in nanoseconds. -/
def Obligations.DelayMinimumsAreAsTabled : Prop :=
  Delay.minNs .tPower = 40000000 ∧ Delay.minNs .tIdle = 1000000000 ∧ Delay.minNs .tInit1 = 4500000 ∧
  Delay.minNs .tInit2 = 4500000 ∧ Delay.minNs .tInit3 = 150000 ∧ Delay.minNs .tPulse = 450 ∧
  Delay.minNs .tSettle = 37000 ∧ Delay.minNs .tLong = 2000000

/-- R21: the column count has no effect on anything. -/
def Obligations.ColumnCountIsNeverRead : Prop :=
  ∀ (i : Instr) (s : State) (n : Nat), exec i (s.withCols n) = mapNext (fun t => t.withCols n) (exec i s)

/-- R53, R84, R55: what a receiver reads back from the bytes of an operation that succeeds is exactly the values its rule
sends, high nibble first, with their register-select, and no byte is left over. In START the 8-bit values come after the
idle byte and the four raw nibble pulses (R97), nine bytes that are given as they are. -/
def Obligations.ReceiverReadsBackTheValuesSent : Prop :=
  ∀ (i : Instr) (s t : State), i.isOperation = true → s.Legal → exec i s = .next t → t.errs = [] →
    ∃ evs, t.trace = s.trace ++ evs ∧ readBack ((writtenBytes evs).drop (rawBytes i)) = (sentValues i s, []) ∧
      (i = .start → (writtenBytes evs).take 9 =
        [s.bl, 0x34 ||| s.bl, 0x30 ||| s.bl, 0x34 ||| s.bl, 0x30 ||| s.bl, 0x34 ||| s.bl, 0x30 ||| s.bl,
         0x24 ||| s.bl, 0x20 ||| s.bl])

/-- R98: every command byte that an operation's writes carry, read back from the bytes it writes, is one of the formats in
the form the block emits, with the default flag constants (log 6, PRESUMED), whatever writes fail: the bytes are read
between the failures, and in START after its nine raw bytes (R97: they are "not command bytes"). -/
def Obligations.CommandBytesSentAreEmittable : Prop :=
  ∀ (i : Instr) (s t : State), i.isOperation = true → s.Legal → s.cfg.flags = FlagConstants.default →
    exec i s = .next t →
    ∃ evs, t.trace = s.trace ++ evs ∧
      ∀ run ∈ succeededRuns evs, ∀ c, (false, c) ∈ (readBack (run.drop (rawBytes i))).1 →
        ∃ j, decode (.command c) = .ok j ∧ j.emittable = true

/-- R37, R68: after an operation that succeeds the expander's lines hold the last byte written, so the enable line is
low if it was low before. Whatever fails, in every instruction but STOP they hold the last byte or, after a failed
write, what they held before it (D14: "either the old or the new byte"). The lines are state by log 4, the wire-level
rows run as log 2 says. -/
def Obligations.LinesHoldTheLastByte : Prop :=
  (∀ (i : Instr) (s t : State), i.isOperation = true → s.Legal → exec i s = .next t → t.errs = [] →
    ∃ evs, t.trace = s.trace ++ evs ∧ t.lines = (writtenBytes evs).getLastD s.lines ∧
      (s.lines &&& 0x04 = 0x00 → t.lines &&& 0x04 = 0x00)) ∧
  ∀ (i : Instr) (s t : State), i ≠ .stop → exec i s = .next t →
    ∃ evs, t.trace = s.trace ++ evs ∧
      (t.lines = (writtenBytes evs).getLastD s.lines ∨
        t.errs ≠ [] ∧ t.lines = (writtenBytes evs).dropLast.getLastD s.lines)

/-- R51, R81: what the trace holds since construction: every write to ADDR, RW never set, and as many writes as the model's
counter says (log 3; the wire-level rows run as log 2 says); every step keeps that. -/
def Obligations.EveryStepKeepsTheTraceSound : Prop :=
  ∀ s t : State, s.Legal ∧ s.TraceSound → step s = .next t → t.Legal ∧ t.TraceSound

/-- R11, R231: the type of the transport's errors is an argument of the model and opaque to the block. `exec` and `step` are
the machine over any error type taken at the host's (log 9); and replacing the error values, by any function into any type,
before an instruction is the same as replacing them after it, when its answers are scripted (log 3). -/
def Obligations.TransportErrorsAreOpaque : Prop :=
  (∀ (i : Instr) (s : State), exec i s = execAt i s) ∧ (∀ s : State, step s = stepAt s) ∧
  ∀ (E E' : Type) (f : E → E') (i : Instr) (s : State.Over E), writeCount i ≤ s.answers.length →
    execAt i (s.rename f) = mapNext (State.Over.rename f) (execAt i s)

/-- R19 (the spec's decision D3): delays between two writes count by their sum alone; and traces that are the same
observation have the same writes, the same answers and the same time waited. -/
def Obligations.ObservationIsWritesAnswersAndDelaySums : Prop :=
  (∀ (E : Type) (before after : List (Event E)) (ds ds' : List Delay),
    (ds.map Delay.minNs).sum = (ds'.map Delay.minNs).sum →
    SameObservation (before ++ ds.map .delay ++ after) (before ++ ds'.map .delay ++ after)) ∧
  ∀ (E : Type) (es es' : List (Event E)), SameObservation es es' →
    writtenBytes es = writtenBytes es' ∧ answersGiven es = answersGiven es' ∧ minimumNs es = minimumNs es'
end

