-- ==== Sys2Proof/Laws/State.lean ====
section
/-! SUPPORT. One lemma per field per update of the state, each true by `rfl`: no later proof unfolds a record update. -/

namespace Sys2Proof.Machine

variable {E : Type}

variable (s : State.Over E)

/-! ## setPhase -/

@[simp] theorem State.setPhase_cfg (p : Phase) : (s.setPhase p).cfg = s.cfg := rfl
@[simp] theorem State.setPhase_phase (p : Phase) : (s.setPhase p).phase = p := rfl
@[simp] theorem State.setPhase_func (p : Phase) : (s.setPhase p).func = s.func := rfl
@[simp] theorem State.setPhase_dctl (p : Phase) : (s.setPhase p).dctl = s.dctl := rfl
@[simp] theorem State.setPhase_emode (p : Phase) : (s.setPhase p).emode = s.emode := rfl
@[simp] theorem State.setPhase_bl (p : Phase) : (s.setPhase p).bl = s.bl := rfl
@[simp] theorem State.setPhase_trace (p : Phase) : (s.setPhase p).trace = s.trace := rfl
@[simp] theorem State.setPhase_errs (p : Phase) : (s.setPhase p).errs = s.errs := rfl
@[simp] theorem State.setPhase_requests (p : Phase) : (s.setPhase p).requests = s.requests := rfl
@[simp] theorem State.setPhase_answers (p : Phase) : (s.setPhase p).answers = s.answers := rfl
@[simp] theorem State.setPhase_draws (p : Phase) : (s.setPhase p).draws = s.draws := rfl
@[simp] theorem State.setPhase_lines (p : Phase) : (s.setPhase p).lines = s.lines := rfl

/-! ## setFunc -/

@[simp] theorem State.setFunc_cfg (v : Byte) : (s.setFunc v).cfg = s.cfg := rfl
@[simp] theorem State.setFunc_phase (v : Byte) : (s.setFunc v).phase = s.phase := rfl
@[simp] theorem State.setFunc_func (v : Byte) : (s.setFunc v).func = v := rfl
@[simp] theorem State.setFunc_dctl (v : Byte) : (s.setFunc v).dctl = s.dctl := rfl
@[simp] theorem State.setFunc_emode (v : Byte) : (s.setFunc v).emode = s.emode := rfl
@[simp] theorem State.setFunc_bl (v : Byte) : (s.setFunc v).bl = s.bl := rfl
@[simp] theorem State.setFunc_trace (v : Byte) : (s.setFunc v).trace = s.trace := rfl
@[simp] theorem State.setFunc_errs (v : Byte) : (s.setFunc v).errs = s.errs := rfl
@[simp] theorem State.setFunc_requests (v : Byte) : (s.setFunc v).requests = s.requests := rfl
@[simp] theorem State.setFunc_answers (v : Byte) : (s.setFunc v).answers = s.answers := rfl
@[simp] theorem State.setFunc_draws (v : Byte) : (s.setFunc v).draws = s.draws := rfl
@[simp] theorem State.setFunc_lines (v : Byte) : (s.setFunc v).lines = s.lines := rfl

/-! ## setDctl -/

@[simp] theorem State.setDctl_cfg (v : Byte) : (s.setDctl v).cfg = s.cfg := rfl
@[simp] theorem State.setDctl_phase (v : Byte) : (s.setDctl v).phase = s.phase := rfl
@[simp] theorem State.setDctl_func (v : Byte) : (s.setDctl v).func = s.func := rfl
@[simp] theorem State.setDctl_dctl (v : Byte) : (s.setDctl v).dctl = v := rfl
@[simp] theorem State.setDctl_emode (v : Byte) : (s.setDctl v).emode = s.emode := rfl
@[simp] theorem State.setDctl_bl (v : Byte) : (s.setDctl v).bl = s.bl := rfl
@[simp] theorem State.setDctl_trace (v : Byte) : (s.setDctl v).trace = s.trace := rfl
@[simp] theorem State.setDctl_errs (v : Byte) : (s.setDctl v).errs = s.errs := rfl
@[simp] theorem State.setDctl_requests (v : Byte) : (s.setDctl v).requests = s.requests := rfl
@[simp] theorem State.setDctl_answers (v : Byte) : (s.setDctl v).answers = s.answers := rfl
@[simp] theorem State.setDctl_draws (v : Byte) : (s.setDctl v).draws = s.draws := rfl
@[simp] theorem State.setDctl_lines (v : Byte) : (s.setDctl v).lines = s.lines := rfl

/-! ## setEmode -/

@[simp] theorem State.setEmode_cfg (v : Byte) : (s.setEmode v).cfg = s.cfg := rfl
@[simp] theorem State.setEmode_phase (v : Byte) : (s.setEmode v).phase = s.phase := rfl
@[simp] theorem State.setEmode_func (v : Byte) : (s.setEmode v).func = s.func := rfl
@[simp] theorem State.setEmode_dctl (v : Byte) : (s.setEmode v).dctl = s.dctl := rfl
@[simp] theorem State.setEmode_emode (v : Byte) : (s.setEmode v).emode = v := rfl
@[simp] theorem State.setEmode_bl (v : Byte) : (s.setEmode v).bl = s.bl := rfl
@[simp] theorem State.setEmode_trace (v : Byte) : (s.setEmode v).trace = s.trace := rfl
@[simp] theorem State.setEmode_errs (v : Byte) : (s.setEmode v).errs = s.errs := rfl
@[simp] theorem State.setEmode_requests (v : Byte) : (s.setEmode v).requests = s.requests := rfl
@[simp] theorem State.setEmode_answers (v : Byte) : (s.setEmode v).answers = s.answers := rfl
@[simp] theorem State.setEmode_draws (v : Byte) : (s.setEmode v).draws = s.draws := rfl
@[simp] theorem State.setEmode_lines (v : Byte) : (s.setEmode v).lines = s.lines := rfl

/-! ## setBl -/

@[simp] theorem State.setBl_cfg (v : Byte) : (s.setBl v).cfg = s.cfg := rfl
@[simp] theorem State.setBl_phase (v : Byte) : (s.setBl v).phase = s.phase := rfl
@[simp] theorem State.setBl_func (v : Byte) : (s.setBl v).func = s.func := rfl
@[simp] theorem State.setBl_dctl (v : Byte) : (s.setBl v).dctl = s.dctl := rfl
@[simp] theorem State.setBl_emode (v : Byte) : (s.setBl v).emode = s.emode := rfl
@[simp] theorem State.setBl_bl (v : Byte) : (s.setBl v).bl = v := rfl
@[simp] theorem State.setBl_trace (v : Byte) : (s.setBl v).trace = s.trace := rfl
@[simp] theorem State.setBl_errs (v : Byte) : (s.setBl v).errs = s.errs := rfl
@[simp] theorem State.setBl_requests (v : Byte) : (s.setBl v).requests = s.requests := rfl
@[simp] theorem State.setBl_answers (v : Byte) : (s.setBl v).answers = s.answers := rfl
@[simp] theorem State.setBl_draws (v : Byte) : (s.setBl v).draws = s.draws := rfl
@[simp] theorem State.setBl_lines (v : Byte) : (s.setBl v).lines = s.lines := rfl

/-! ## setErrs -/

@[simp] theorem State.setErrs_cfg (e : List E) : (s.setErrs e).cfg = s.cfg := rfl
@[simp] theorem State.setErrs_phase (e : List E) : (s.setErrs e).phase = s.phase := rfl
@[simp] theorem State.setErrs_func (e : List E) : (s.setErrs e).func = s.func := rfl
@[simp] theorem State.setErrs_dctl (e : List E) : (s.setErrs e).dctl = s.dctl := rfl
@[simp] theorem State.setErrs_emode (e : List E) : (s.setErrs e).emode = s.emode := rfl
@[simp] theorem State.setErrs_bl (e : List E) : (s.setErrs e).bl = s.bl := rfl
@[simp] theorem State.setErrs_trace (e : List E) : (s.setErrs e).trace = s.trace := rfl
@[simp] theorem State.setErrs_errs (e : List E) : (s.setErrs e).errs = e := rfl
@[simp] theorem State.setErrs_requests (e : List E) : (s.setErrs e).requests = s.requests := rfl
@[simp] theorem State.setErrs_answers (e : List E) : (s.setErrs e).answers = s.answers := rfl
@[simp] theorem State.setErrs_draws (e : List E) : (s.setErrs e).draws = s.draws := rfl
@[simp] theorem State.setErrs_lines (e : List E) : (s.setErrs e).lines = s.lines := rfl

/-! ## setRequests -/

@[simp] theorem State.setRequests_cfg (rs : List Request) : (s.setRequests rs).cfg = s.cfg := rfl
@[simp] theorem State.setRequests_phase (rs : List Request) : (s.setRequests rs).phase = s.phase := rfl
@[simp] theorem State.setRequests_func (rs : List Request) : (s.setRequests rs).func = s.func := rfl
@[simp] theorem State.setRequests_dctl (rs : List Request) : (s.setRequests rs).dctl = s.dctl := rfl
@[simp] theorem State.setRequests_emode (rs : List Request) : (s.setRequests rs).emode = s.emode := rfl
@[simp] theorem State.setRequests_bl (rs : List Request) : (s.setRequests rs).bl = s.bl := rfl
@[simp] theorem State.setRequests_trace (rs : List Request) : (s.setRequests rs).trace = s.trace := rfl
@[simp] theorem State.setRequests_errs (rs : List Request) : (s.setRequests rs).errs = s.errs := rfl
@[simp] theorem State.setRequests_requests (rs : List Request) : (s.setRequests rs).requests = rs := rfl
@[simp] theorem State.setRequests_answers (rs : List Request) : (s.setRequests rs).answers = s.answers := rfl
@[simp] theorem State.setRequests_draws (rs : List Request) : (s.setRequests rs).draws = s.draws := rfl
@[simp] theorem State.setRequests_lines (rs : List Request) : (s.setRequests rs).lines = s.lines := rfl

/-! ## present -/

@[simp] theorem State.present_cfg (r : Request) : (s.present r).cfg = s.cfg := rfl
@[simp] theorem State.present_phase (r : Request) : (s.present r).phase = s.phase := rfl
@[simp] theorem State.present_func (r : Request) : (s.present r).func = s.func := rfl
@[simp] theorem State.present_dctl (r : Request) : (s.present r).dctl = s.dctl := rfl
@[simp] theorem State.present_emode (r : Request) : (s.present r).emode = s.emode := rfl
@[simp] theorem State.present_bl (r : Request) : (s.present r).bl = s.bl := rfl
@[simp] theorem State.present_trace (r : Request) : (s.present r).trace = s.trace := rfl
@[simp] theorem State.present_errs (r : Request) : (s.present r).errs = s.errs := rfl
@[simp] theorem State.present_requests (r : Request) : (s.present r).requests = s.requests ++ [r] := rfl
@[simp] theorem State.present_answers (r : Request) : (s.present r).answers = s.answers := rfl
@[simp] theorem State.present_draws (r : Request) : (s.present r).draws = s.draws := rfl
@[simp] theorem State.present_lines (r : Request) : (s.present r).lines = s.lines := rfl

/-! ## recordDelay -/

@[simp] theorem State.recordDelay_cfg (t : Delay) : (s.recordDelay t).cfg = s.cfg := rfl
@[simp] theorem State.recordDelay_phase (t : Delay) : (s.recordDelay t).phase = s.phase := rfl
@[simp] theorem State.recordDelay_func (t : Delay) : (s.recordDelay t).func = s.func := rfl
@[simp] theorem State.recordDelay_dctl (t : Delay) : (s.recordDelay t).dctl = s.dctl := rfl
@[simp] theorem State.recordDelay_emode (t : Delay) : (s.recordDelay t).emode = s.emode := rfl
@[simp] theorem State.recordDelay_bl (t : Delay) : (s.recordDelay t).bl = s.bl := rfl
@[simp] theorem State.recordDelay_trace (t : Delay) : (s.recordDelay t).trace = s.trace ++ [.delay t] := rfl
@[simp] theorem State.recordDelay_errs (t : Delay) : (s.recordDelay t).errs = s.errs := rfl
@[simp] theorem State.recordDelay_requests (t : Delay) : (s.recordDelay t).requests = s.requests := rfl
@[simp] theorem State.recordDelay_answers (t : Delay) : (s.recordDelay t).answers = s.answers := rfl
@[simp] theorem State.recordDelay_draws (t : Delay) : (s.recordDelay t).draws = s.draws := rfl
@[simp] theorem State.recordDelay_lines (t : Delay) : (s.recordDelay t).lines = s.lines := rfl

/-! ## recordWrite -/

@[simp] theorem State.recordWrite_cfg (d : Byte) (a : Answer E) : (s.recordWrite d a).cfg = s.cfg := rfl
@[simp] theorem State.recordWrite_phase (d : Byte) (a : Answer E) : (s.recordWrite d a).phase = s.phase := rfl
@[simp] theorem State.recordWrite_func (d : Byte) (a : Answer E) : (s.recordWrite d a).func = s.func := rfl
@[simp] theorem State.recordWrite_dctl (d : Byte) (a : Answer E) : (s.recordWrite d a).dctl = s.dctl := rfl
@[simp] theorem State.recordWrite_emode (d : Byte) (a : Answer E) : (s.recordWrite d a).emode = s.emode := rfl
@[simp] theorem State.recordWrite_bl (d : Byte) (a : Answer E) : (s.recordWrite d a).bl = s.bl := rfl
@[simp] theorem State.recordWrite_trace (d : Byte) (a : Answer E) :
    (s.recordWrite d a).trace = s.trace ++ [.write s.cfg.addr d a] := rfl
@[simp] theorem State.recordWrite_errs (d : Byte) (a : Answer E) : (s.recordWrite d a).errs = s.errs := rfl
@[simp] theorem State.recordWrite_requests (d : Byte) (a : Answer E) : (s.recordWrite d a).requests = s.requests := rfl
@[simp] theorem State.recordWrite_answers (d : Byte) (a : Answer E) : (s.recordWrite d a).answers = s.answers.tail := rfl
@[simp] theorem State.recordWrite_draws (d : Byte) (a : Answer E) : (s.recordWrite d a).draws = s.draws + 1 := rfl
@[simp] theorem State.recordWrite_lines (d : Byte) (a : Answer E) : (s.recordWrite d a).lines = s.linesAfter d a := rfl

/-! ## withCols -/

@[simp] theorem State.withCols_cfg (n : Nat) : (s.withCols n).cfg = { s.cfg with cols := n } := rfl
@[simp] theorem State.withCols_phase (n : Nat) : (s.withCols n).phase = s.phase := rfl
@[simp] theorem State.withCols_func (n : Nat) : (s.withCols n).func = s.func := rfl
@[simp] theorem State.withCols_dctl (n : Nat) : (s.withCols n).dctl = s.dctl := rfl
@[simp] theorem State.withCols_emode (n : Nat) : (s.withCols n).emode = s.emode := rfl
@[simp] theorem State.withCols_bl (n : Nat) : (s.withCols n).bl = s.bl := rfl
@[simp] theorem State.withCols_trace (n : Nat) : (s.withCols n).trace = s.trace := rfl
@[simp] theorem State.withCols_errs (n : Nat) : (s.withCols n).errs = s.errs := rfl
@[simp] theorem State.withCols_requests (n : Nat) : (s.withCols n).requests = s.requests := rfl
@[simp] theorem State.withCols_answers (n : Nat) : (s.withCols n).answers = s.answers := rfl
@[simp] theorem State.withCols_draws (n : Nat) : (s.withCols n).draws = s.draws := rfl
@[simp] theorem State.withCols_lines (n : Nat) : (s.withCols n).lines = s.lines := rfl

/-! ## nextAnswer: what an update leaves of the next answer -/

@[simp] theorem State.setPhase_nextAnswer (p : Phase) : (s.setPhase p).nextAnswer = s.nextAnswer := rfl
@[simp] theorem State.setFunc_nextAnswer (v : Byte) : (s.setFunc v).nextAnswer = s.nextAnswer := rfl
@[simp] theorem State.setDctl_nextAnswer (v : Byte) : (s.setDctl v).nextAnswer = s.nextAnswer := rfl
@[simp] theorem State.setEmode_nextAnswer (v : Byte) : (s.setEmode v).nextAnswer = s.nextAnswer := rfl
@[simp] theorem State.setBl_nextAnswer (v : Byte) : (s.setBl v).nextAnswer = s.nextAnswer := rfl
@[simp] theorem State.setErrs_nextAnswer (e : List E) : (s.setErrs e).nextAnswer = s.nextAnswer := rfl
@[simp] theorem State.setRequests_nextAnswer (rs : List Request) : (s.setRequests rs).nextAnswer = s.nextAnswer := rfl
@[simp] theorem State.present_nextAnswer (r : Request) : (s.present r).nextAnswer = s.nextAnswer := rfl
@[simp] theorem State.recordDelay_nextAnswer (t : Delay) : (s.recordDelay t).nextAnswer = s.nextAnswer := rfl
@[simp] theorem State.withCols_nextAnswer (n : Nat) : (s.withCols n).nextAnswer = s.nextAnswer := rfl

/-! ## reset -/

@[simp] theorem State.initial_cfg (cfg : DisplayConfig) (backlit : Bool) (lines : Byte) :
    (State.Over.initial (E := E) cfg backlit lines).cfg = cfg := rfl
@[simp] theorem State.initial_phase (cfg : DisplayConfig) (backlit : Bool) (lines : Byte) :
    (State.Over.initial (E := E) cfg backlit lines).phase = .uninitialized := rfl
@[simp] theorem State.initial_func (cfg : DisplayConfig) (backlit : Bool) (lines : Byte) :
    (State.Over.initial (E := E) cfg backlit lines).func = 0x00 := rfl
@[simp] theorem State.initial_dctl (cfg : DisplayConfig) (backlit : Bool) (lines : Byte) :
    (State.Over.initial (E := E) cfg backlit lines).dctl = 0x00 := rfl
@[simp] theorem State.initial_emode (cfg : DisplayConfig) (backlit : Bool) (lines : Byte) :
    (State.Over.initial (E := E) cfg backlit lines).emode = 0x00 := rfl
@[simp] theorem State.initial_bl (cfg : DisplayConfig) (backlit : Bool) (lines : Byte) :
    (State.Over.initial (E := E) cfg backlit lines).bl = if backlit then 0x08 else 0x00 := rfl
@[simp] theorem State.initial_trace (cfg : DisplayConfig) (backlit : Bool) (lines : Byte) :
    (State.Over.initial (E := E) cfg backlit lines).trace = [] := rfl
@[simp] theorem State.initial_errs (cfg : DisplayConfig) (backlit : Bool) (lines : Byte) :
    (State.Over.initial (E := E) cfg backlit lines).errs = [] := rfl
@[simp] theorem State.initial_requests (cfg : DisplayConfig) (backlit : Bool) (lines : Byte) :
    (State.Over.initial (E := E) cfg backlit lines).requests = [] := rfl
@[simp] theorem State.initial_answers (cfg : DisplayConfig) (backlit : Bool) (lines : Byte) :
    (State.Over.initial (E := E) cfg backlit lines).answers = [] := rfl
@[simp] theorem State.initial_draws (cfg : DisplayConfig) (backlit : Bool) (lines : Byte) :
    (State.Over.initial (E := E) cfg backlit lines).draws = 0 := rfl
@[simp] theorem State.initial_lines (cfg : DisplayConfig) (backlit : Bool) (lines : Byte) :
    (State.Over.initial (E := E) cfg backlit lines).lines = lines := rfl

/-! ## rename -/

variable {E' : Type} (f : E → E')

@[simp] theorem State.rename_cfg : (s.rename f).cfg = s.cfg := rfl
@[simp] theorem State.rename_phase : (s.rename f).phase = s.phase := rfl
@[simp] theorem State.rename_func : (s.rename f).func = s.func := rfl
@[simp] theorem State.rename_dctl : (s.rename f).dctl = s.dctl := rfl
@[simp] theorem State.rename_emode : (s.rename f).emode = s.emode := rfl
@[simp] theorem State.rename_bl : (s.rename f).bl = s.bl := rfl
@[simp] theorem State.rename_trace : (s.rename f).trace = s.trace.map (renameEvent f) := rfl
@[simp] theorem State.rename_errs : (s.rename f).errs = s.errs.map f := rfl
@[simp] theorem State.rename_requests : (s.rename f).requests = s.requests := rfl
@[simp] theorem State.rename_answers : (s.rename f).answers = s.answers.map (renameAnswer f) := rfl
@[simp] theorem State.rename_draws : (s.rename f).draws = s.draws := rfl
@[simp] theorem State.rename_lines : (s.rename f).lines = s.lines := rfl
@[simp] theorem State.rename_setPhase (p : Phase) : (s.setPhase p).rename f = (s.rename f).setPhase p := rfl
@[simp] theorem State.rename_setFunc (v : Byte) : (s.setFunc v).rename f = (s.rename f).setFunc v := rfl
@[simp] theorem State.rename_setDctl (v : Byte) : (s.setDctl v).rename f = (s.rename f).setDctl v := rfl
@[simp] theorem State.rename_setEmode (v : Byte) : (s.setEmode v).rename f = (s.rename f).setEmode v := rfl
@[simp] theorem State.rename_setBl (v : Byte) : (s.setBl v).rename f = (s.rename f).setBl v := rfl
@[simp] theorem State.rename_setErrs (e : List E) : (s.setErrs e).rename f = (s.rename f).setErrs (e.map f) := rfl
@[simp] theorem State.rename_recordDelay (t : Delay) : (s.recordDelay t).rename f = (s.rename f).recordDelay t := by
  simp [State.Over.rename, State.Over.recordDelay, renameEvent]
@[simp] theorem State.rename_recordWrite (d : Byte) (a : Answer E) :
    (s.recordWrite d a).rename f = (s.rename f).recordWrite d (renameAnswer f a) := by
  cases a
  · simp [State.Over.rename, State.Over.recordWrite, renameEvent, renameAnswer, State.Over.linesAfter]
  · simp [State.Over.rename, State.Over.recordWrite, renameEvent, renameAnswer, State.Over.linesAfter]
    rfl

end Sys2Proof.Machine
end

