-- ==== Sys2Proof/Laws/Decode.lean ====
section
/-! SUPPORT. The fields of a request word read back (30_encoding.md R101). -/

namespace Sys2Proof

@[simp] theorem reqSelector_reqWord (sel a b : Byte) : reqSelector (reqWord sel a b) = sel := by
  ext i hi
  rw [reqSelector, BitVec.getElem_extractLsb', reqWord, BitVec.getLsbD_append, BitVec.getLsbD_append]
  simp [show ¬ (16 + i < 8) by omega]
  rw [if_neg (by omega)]
  simp [show 16 + i - 8 - 8 = i by omega, hi]

@[simp] theorem reqA_reqWord (sel a b : Byte) : reqA (reqWord sel a b) = a := by
  ext i hi
  rw [reqA, BitVec.getElem_extractLsb', reqWord, BitVec.getLsbD_append, BitVec.getLsbD_append]
  simp [hi]

@[simp] theorem reqB_reqWord (sel a b : Byte) : reqB (reqWord sel a b) = b := by
  ext i hi
  rw [reqB, BitVec.getElem_extractLsb', reqWord, BitVec.getLsbD_append, BitVec.getLsbD_append]
  simp [hi]

end Sys2Proof
end

