-- ==== Sys2Proof/Laws/Ops.lean ====
section
/-! SUPPORT. One lemma for each shared operation that says once everything it can do. Provers cite these and do not unfold the
operations. The form used throughout is `Result.played`: what a procedure does is what its script plays. -/

namespace Sys2Proof.Machine

variable {E : Type}

/-! ## Sequencing and the operation boundary -/

@[simp] theorem Result.andThen_done (s : State.Over E) (k : State.Over E → Result E) :
    (Result.done s).andThen k = k s := rfl

@[simp] theorem Result.andThen_raised (e : E) (s : State.Over E) (k : State.Over E → Result E) :
    (Result.raised e s).andThen k = .raised e s := rfl

theorem Result.andThen_assoc (r : Result E) (k l : State.Over E → Result E) :
    (r.andThen k).andThen l = r.andThen (fun s => (k s).andThen l) := by
  cases r <;> rfl

@[simp] theorem endOperation_done (s : State.Over E) : endOperation (.done s) = s.setErrs [] := rfl

@[simp] theorem endOperation_raised (e : E) (s : State.Over E) : endOperation (.raised e s) = s.setErrs [e] := rfl

/-- The response of an operation, read off how its body ended. -/
theorem endOperation_eq_played (r : Result E) : endOperation r = r.played.1.setErrs r.played.2.toList := by
  cases r <;> rfl

/-- A caught part of STOP: its failure, if any, is appended to the list. -/
theorem attempt_eq_played (body : State.Over E → Result E) (s : State.Over E) (h : (body s).played.1.errs = s.errs) :
    attempt body s = (body s).played.1.setErrs (s.errs ++ (body s).played.2.toList) := by
  unfold attempt
  cases hb : body s with
  | done t => rw [hb] at h; simp [Result.played] at h ⊢; rw [← h]; rfl
  | raised e t => rw [hb] at h; simp [Result.played] at h ⊢; rw [h]

theorem guardConfiguration_of_wellFormed {s : State.Over E} (h : s.cfg.wellFormed = true)
    (o : Host.Outcome (State.Over E) Fault Refusal) : guardConfiguration s o = o := by
  simp [guardConfiguration, h]

theorem guardConfiguration_of_illFormed {s : State.Over E} (h : s.cfg.wellFormed = false)
    (o : Host.Outcome (State.Over E) Fault Refusal) : guardConfiguration s o = .refused .illFormedConfiguration := by
  simp [guardConfiguration, h]

/-- A guarded outcome is a next state only under a well-formed configuration. -/
theorem guardConfiguration_next {s t : State.Over E} {o : Host.Outcome (State.Over E) Fault Refusal}
    (h : guardConfiguration s o = .next t) : s.cfg.wellFormed = true ∧ o = .next t := by
  unfold guardConfiguration at h
  split at h
  · exact ⟨‹_›, h⟩
  · cases h

/-! ## Scripts -/

/-- A script in two pieces: the second is played only if the first ran to its end. -/
theorem State.play_append (xs ys : List Act) (s : State.Over E) :
    s.play (xs ++ ys) = match (s.play xs).2 with
      | none => (s.play xs).1.play ys
      | some e => ((s.play xs).1, some e) := by
  induction xs generalizing s with
  | nil => rfl
  | cons x xs ih =>
    cases x <;> simp only [List.cons_append, State.Over.play, ih]
    split <;> rfl

/-- A procedure followed by another is a script followed by another. -/
theorem Result.andThen_played {r : Result E} {k : State.Over E → Result E} {s : State.Over E} {xs ys : List Act}
    (hr : r.played = s.play xs) (hk : ∀ t, r = .done t → (k t).played = t.play ys) :
    (r.andThen k).played = s.play (xs ++ ys) := by
  rw [State.play_append, ← hr]
  cases r with
  | done t => exact hk t rfl
  | raised e t => rfl

/-! ## The transfer layers -/

/-- XWRITE is one bus write of the composed byte. -/
theorem xwrite_played (n rs en : Byte) (s : State.Over E) :
    (xwrite n rs en s).played = s.play [.put (compose n rs en s.bl)] := by
  simp only [xwrite, memWrite, State.Over.play]
  cases h : s.nextAnswer <;> simp [Result.played, raiseTransportFailure]

@[simp] theorem delay_played (t : Delay) (s : State.Over E) : (delay t s).played = s.play [.wait t] := rfl

/-- No script without register writes changes a register, the configuration, the response or what is presented. -/
theorem State.play_keeps {script : List Act} (h : ∀ a ∈ script, (∃ d, a = .put d) ∨ ∃ t, a = .wait t)
    (s : State.Over E) :
    SameRegisters s (s.play script).1 ∧ (s.play script).1.cfg = s.cfg ∧ (s.play script).1.errs = s.errs ∧
      (s.play script).1.requests = s.requests := by
  induction script generalizing s with
  | nil => simp [State.Over.play, SameRegisters]
  | cons a as ih =>
    have hh := ih (fun b hb => h b (List.mem_cons_of_mem _ hb))
    rcases h a (List.mem_cons_self ..) with ⟨d, rfl⟩ | ⟨t, rfl⟩
    · cases hn : s.nextAnswer with
      | ok => simpa [State.Over.play, hn, SameRegisters] using hh (s.recordWrite d .ok)
      | fail e => simp [State.Over.play, hn, SameRegisters]
    · simpa [State.Over.play, SameRegisters] using hh (s.recordDelay t)

theorem playable_pulse (bl v : Byte) : ∀ a ∈ scriptPulse bl v, (∃ d, a = .put d) ∨ ∃ t, a = .wait t := by
  simp [scriptPulse]

theorem playable_send (bl v rs : Byte) : ∀ a ∈ scriptSend bl v rs, (∃ d, a = .put d) ∨ ∃ t, a = .wait t := by
  simp [scriptSend]

/-! ## What a trace shows, piece by piece -/

@[simp] theorem writtenBytes_append (es es' : List (Event E)) :
    writtenBytes (es ++ es') = writtenBytes es ++ writtenBytes es' := by
  induction es with
  | nil => rfl
  | cons e es ih => cases e <;> simp [writtenBytes, ih]

@[simp] theorem answersGiven_append (es es' : List (Event E)) :
    answersGiven (es ++ es') = answersGiven es ++ answersGiven es' := by
  induction es with
  | nil => rfl
  | cons e es ih => cases e <;> simp [answersGiven, ih]

@[simp] theorem failures_append (es es' : List (Event E)) : failures (es ++ es') = failures es ++ failures es' := by
  induction es with
  | nil => rfl
  | cons e es ih =>
    rcases e with ⟨_, _, _ | _⟩ | _ <;> simp [failures, ih]

@[simp] theorem minimumNs_append (es es' : List (Event E)) :
    minimumNs (es ++ es') = minimumNs es + minimumNs es' := by
  induction es with
  | nil => simp [minimumNs]
  | cons e es ih => cases e <;> simp [minimumNs, ih, Nat.add_assoc]

@[simp] theorem allToAddress_append (a : BusAddress) (es es' : List (Event E)) :
    allToAddress a (es ++ es') = (allToAddress a es && allToAddress a es') := by
  induction es with
  | nil => rfl
  | cons e es ih => cases e <;> simp [allToAddress, ih, Bool.and_assoc]

/-- Delays before a trace only lengthen what has been waited. -/
theorem observe_delays (before : Nat) (ds : List Delay) (es : List (Event E)) :
    observe before (ds.map .delay ++ es) = observe (before + (ds.map Delay.minNs).sum) es := by
  induction ds generalizing before with
  | nil => rfl
  | cons d ds ih => simp [observe, ih, Nat.add_assoc]

/-! ## The transport's answers and the account of a script -/

theorem State.answerAt_zero (s : State.Over E) : s.answerAt 0 = s.nextAnswer := by
  unfold State.Over.answerAt State.Over.nextAnswer
  cases s.answers <;> simp

theorem State.recordWrite_answerAt (s : State.Over E) (d : Byte) (a : Answer E) (k : Nat) :
    (s.recordWrite d a).answerAt k = s.answerAt (k + 1) := by
  simp only [State.Over.answerAt, State.recordWrite_answers, State.recordWrite_draws, List.getElem?_tail]
  rw [show s.draws + 1 + k = s.draws + (k + 1) by omega]

/-- Everything a script does at the interfaces, whatever is answered: the events it adds, and with them the writes counted,
the answers taken, the failure, and what it leaves alone. -/
theorem State.play_accounts (script : List Act) (s : State.Over E) :
    ∃ evs, (s.play script).1.trace = s.trace ++ evs ∧ allToAddress s.cfg.addr evs = true ∧
      (s.play script).1.draws = s.draws + (writtenBytes evs).length ∧
      (s.play script).1.answers = s.answers.drop (writtenBytes evs).length ∧
      answersGiven evs = (List.range (writtenBytes evs).length).map s.answerAt ∧
      (s.play script).2.toList = failures evs ∧ (s.play script).1.cfg = s.cfg ∧
      (s.play script).1.requests = s.requests ∧ (s.play script).1.errs = s.errs := by
  induction script generalizing s with
  | nil => exact ⟨[], by simp [State.Over.play, allToAddress, writtenBytes, answersGiven, failures]⟩
  | cons a as ih =>
    cases a with
    | put d =>
      cases hn : s.nextAnswer with
      | ok =>
        obtain ⟨evs, h1, h2, h3, h4, h5, h6, h7, h8, h9⟩ := ih (s.recordWrite d .ok)
        refine ⟨.write s.cfg.addr d .ok :: evs, ?_⟩
        simp only [State.Over.play, hn]
        simp only [State.recordWrite_trace, State.recordWrite_draws, State.recordWrite_answers, State.recordWrite_cfg,
          State.recordWrite_requests, State.recordWrite_errs] at h1 h2 h3 h4 h7 h8 h9
        refine ⟨by simpa using h1, by simpa [allToAddress] using h2, by rw [h3]; simp [writtenBytes]; omega, by
          rw [h4]; simp [writtenBytes], ?_, by rw [h6]; rfl, h7, h8, h9⟩
        simp only [answersGiven, writtenBytes, List.length_cons, List.range_succ_eq_map, List.map_cons, List.map_map, h5,
          State.answerAt_zero, hn]
        congr 1
        exact List.map_congr_left (fun k _ => State.recordWrite_answerAt s d .ok k)
      | fail e =>
        refine ⟨[.write s.cfg.addr d (.fail e)], ?_⟩
        simp [State.Over.play, hn, allToAddress, writtenBytes, answersGiven, failures, State.answerAt_zero]
    | wait t =>
      obtain ⟨evs, h1, h⟩ := ih (s.recordDelay t)
      exact ⟨.delay t :: evs, by simpa [State.Over.play] using h1, h⟩
    | setPhase p => exact ih (s.setPhase p)
    | setFunc v => exact ih (s.setFunc v)
    | setDctl v => exact ih (s.setDctl v)
    | setEmode v => exact ih (s.setEmode v)
    | setBl v => exact ih (s.setBl v)

/-- An operation whose body plays a script ends as the script does. -/
theorem perform_of_played {body : State.Over E → Result E} {s : State.Over E} {script : List Act}
    (hw : s.cfg.wellFormed = true)
    (h : (body s).played = s.play script) : perform body s = .next (s.plays script) := by
  rw [perform, guardConfiguration_of_wellFormed hw, endOperation_eq_played, h]
  rfl

theorem Result.play_of_done {r : Result E} {s t : State.Over E} {script : List Act} (h : r.played = s.play script)
    (hd : r = .done t) : s.play script = (t, none) := by
  rw [← h, hd]
  rfl

end Sys2Proof.Machine
end

