-- ==== Sys2Proof/Laws/Generic.lean ====
section
/-! SUPPORT. The machine at the host's error type is the machine over any error type, taken at that one; and what renaming
the transport's errors does to each field and to each shared operation. -/

namespace Sys2Proof.Machine

theorem exec_eq_execAt (i : Instr) (s : State) : exec i s = execAt i s := by
  cases i <;> rfl

theorem step_eq_stepAt (s : State) : step s = stepAt s := by
  unfold step stepAt
  cases s.requests with
  | nil => rfl
  | cons r rest =>
    dsimp only
    cases decode r with
    | error why => rfl
    | ok i => exact exec_eq_execAt i (s.setRequests rest)

variable {E E' : Type} (f : E → E')

/-- With an answer scripted the next answer is that one, so it is renamed with the state. -/
theorem State.rename_nextAnswer (s : State.Over E) (h : 0 < s.answers.length) :
    (s.rename f).nextAnswer = renameAnswer f s.nextAnswer := by
  unfold State.Over.nextAnswer
  rw [State.rename_answers]
  cases hs : s.answers with
  | nil => rw [hs] at h; exact absurd h (by simp)
  | cons a as => rfl

/-- How many bus writes a script has. -/
def putCount : List Act → Nat
  | [] => 0
  | .put _ :: as => putCount as + 1
  | .wait _ :: as => putCount as
  | .setPhase _ :: as => putCount as
  | .setFunc _ :: as => putCount as
  | .setDctl _ :: as => putCount as
  | .setEmode _ :: as => putCount as
  | .setBl _ :: as => putCount as

/-- Renaming before a script is renaming after it, when its answers are scripted. -/
theorem State.rename_play (script : List Act) (s : State.Over E) (h : putCount script ≤ s.answers.length) :
    (s.rename f).play script = ((s.play script).1.rename f, (s.play script).2.map f) := by
  induction script generalizing s with
  | nil => rfl
  | cons a as ih =>
    cases a with
    | put d =>
      simp only [putCount] at h
      have hn := State.rename_nextAnswer f s (by omega)
      cases ha : s.nextAnswer with
      | ok =>
        rw [ha] at hn
        simp only [State.Over.play, ha, hn, renameAnswer]
        rw [← ih (s.recordWrite d .ok) (by simp; omega), State.rename_recordWrite]
        rfl
      | fail e =>
        rw [ha] at hn
        simp [State.Over.play, ha, hn, renameAnswer]
    | wait t => simpa [State.Over.play] using ih (s.recordDelay t) h
    | setPhase p => simpa [State.Over.play] using ih (s.setPhase p) h
    | setFunc v => simpa [State.Over.play] using ih (s.setFunc v) h
    | setDctl v => simpa [State.Over.play] using ih (s.setDctl v) h
    | setEmode v => simpa [State.Over.play] using ih (s.setEmode v) h
    | setBl v => simpa [State.Over.play] using ih (s.setBl v) h

end Sys2Proof.Machine
end

