-- ==== Sys2Proof/Laws/PerInstr.lean ====
section
/-! SUPPORT. Facts about each row of the table as syntax, one lemma per constructor of `Instr`: an operation encodes to a
request of the host's interface and to a 24-bit word with an assigned selector (30_encoding.md R101, R102), a wire-level
row does not. -/

namespace Sys2Proof.Laws.EncodeShape

/-- The encoding is a host request exactly when the row is an operation, and then its selector is 0x01 to 0x16. -/
def Statement (i : Instr) : Prop :=
  (encode i).fromHost = i.isOperation ∧
    ∀ w p, encode i = .operation w p → 0x01 ≤ (reqSelector w).toNat ∧ (reqSelector w).toNat ≤ 0x16

theorem of_operation {i : Instr} {sel a b : Byte} {q : List Byte} (he : encode i = .operation (reqWord sel a b) q)
    (ho : i.isOperation = true) (h : 0x01 ≤ sel.toNat ∧ sel.toNat ≤ 0x16) : Statement i := by
  refine ⟨by rw [he, ho]; rfl, fun w p hw => ?_⟩
  rw [he] at hw
  cases hw
  rwa [reqSelector_reqWord]

theorem clear : Statement .clear := of_operation rfl rfl (by decide)
theorem home : Statement .home := of_operation rfl rfl (by decide)
theorem setCursor (col row : Byte) : Statement (.setCursor col row) := of_operation rfl rfl (by decide)
theorem displayOn : Statement .displayOn := of_operation rfl rfl (by decide)
theorem displayOff : Statement .displayOff := of_operation rfl rfl (by decide)
theorem cursorOn : Statement .cursorOn := of_operation rfl rfl (by decide)
theorem cursorOff : Statement .cursorOff := of_operation rfl rfl (by decide)
theorem blinkOn : Statement .blinkOn := of_operation rfl rfl (by decide)
theorem blinkOff : Statement .blinkOff := of_operation rfl rfl (by decide)
theorem scrollLeft : Statement .scrollLeft := of_operation rfl rfl (by decide)
theorem scrollRight : Statement .scrollRight := of_operation rfl rfl (by decide)
theorem leftToRight : Statement .leftToRight := of_operation rfl rfl (by decide)
theorem rightToLeft : Statement .rightToLeft := of_operation rfl rfl (by decide)
theorem autoscrollOn : Statement .autoscrollOn := of_operation rfl rfl (by decide)
theorem autoscrollOff : Statement .autoscrollOff := of_operation rfl rfl (by decide)
theorem createChar (slot : Byte) (rows : List Byte) : Statement (.createChar slot rows) := of_operation rfl rfl (by decide)
theorem backlightOn : Statement .backlightOn := of_operation rfl rfl (by decide)
theorem backlightOff : Statement .backlightOff := of_operation rfl rfl (by decide)
theorem writeChar (byte : Byte) : Statement (.writeChar byte) := of_operation rfl rfl (by decide)
theorem print (text : List Byte) : Statement (.print text) := of_operation rfl rfl (by decide)
theorem start : Statement .start := of_operation rfl rfl (by decide)
theorem stop : Statement .stop := of_operation rfl rfl (by decide)
theorem clearDisplay : Statement .clearDisplay := ⟨rfl, fun _ _ h => nomatch h⟩
theorem returnHome : Statement .returnHome := ⟨rfl, fun _ _ h => nomatch h⟩
theorem entryModeSet (d n : Bool) : Statement (.entryModeSet d n) := ⟨rfl, fun _ _ h => nomatch h⟩
theorem displayControl (d c b : Bool) : Statement (.displayControl d c b) := ⟨rfl, fun _ _ h => nomatch h⟩
theorem cursorShift (m r : Bool) : Statement (.cursorShift m r) := ⟨rfl, fun _ _ h => nomatch h⟩
theorem functionSet (w l f : Bool) : Statement (.functionSet w l f) := ⟨rfl, fun _ _ h => nomatch h⟩
theorem setCgramAddr (slot : BitVec 3) : Statement (.setCgramAddr slot) := ⟨rfl, fun _ _ h => nomatch h⟩
theorem setDdramAddr (address : BitVec 7) : Statement (.setDdramAddr address) := ⟨rfl, fun _ _ h => nomatch h⟩
theorem dataByte (value : Byte) : Statement (.dataByte value) := ⟨rfl, fun _ _ h => nomatch h⟩
theorem expanderByte (n : BitVec 4) (l e r : Bool) : Statement (.expanderByte n l e r) := ⟨rfl, fun _ _ h => nomatch h⟩

end Sys2Proof.Laws.EncodeShape
end

