-- ==== Sys2Proof/Tests/Slice0.lean ====
section
/-! SUPPORT. The model's own tests. Expected values come from 95_test_vectors.md (the vector is named) or from the rule named;
then one witness for the hypotheses of each statement. -/

namespace Sys2Proof.Tests

open Sys2Proof Sys2Proof.Machine

/-! ## Small states -/

/-- `n` answers `ok`, then the given ones. -/
def script (n : Nat) (rest : List (Answer TErr)) : List (Answer TErr) := List.replicate n .ok ++ rest

/-- A failed answer. -/
def bad : Answer TErr := .fail ⟨7⟩

/-- A configuration with the given rows and dots. -/
def config (rows dots : Nat) : DisplayConfig := { DisplayConfig.scenario with rows := rows, dots := dots }

/-- A constructed block with scripted answers. -/
def fresh (rows dots : Nat) (backlit : Bool) (answers : List (Answer TErr)) : State :=
  { State.Over.initial (config rows dots) backlit 0x00 with answers := answers }

/-- The "Ready state" of the vectors: `(Ready, 0x08, 0x04, 0x02, b)` with ROWS = 2, with the given DCTL and EMODE. -/
def ready (backlit : Bool) (dctl emode : Byte) (answers : List (Answer TErr)) : State :=
  { fresh 2 8 backlit answers with phase := .ready, func := 0x08, dctl := dctl, emode := emode }

/-- The next state of an outcome. -/
def after (o : Host.Outcome State Fault Refusal) : State :=
  match o with
  | .next t => t
  | .fault _ => State.reset
  | .refused _ => State.reset

/-- The bytes written and the errors returned. -/
def seen (o : Host.Outcome State Fault Refusal) : List Byte × List TErr :=
  (writtenBytes (after o).trace, (after o).errs)

/-- `(PHASE, FUNC, DCTL, EMODE, BL)`. -/
def registers (o : Host.Outcome State Fault Refusal) : Phase × Byte × Byte × Byte × Byte :=
  ((after o).phase, (after o).func, (after o).dctl, (after o).emode, (after o).bl)

/-- The sum of the minimum delays waited. -/
def waited (o : Host.Outcome State Fault Refusal) : Nat := minimumNs (after o).trace

/-! ## Well-formedness: each check refuses an ill-formed term -/

theorem test_scenario_wellFormed : DisplayConfig.scenario.wellFormed = true := by decide
theorem test_rows_zero_refused : (config 0 8).wellFormed = false := by decide
theorem test_rows_five_refused : (config 5 8).wellFormed = false := by decide
theorem test_dots_seven_refused : (config 2 7).wellFormed = false := by decide
theorem test_display_flag_outside_mask_refused :
    { FlagConstants.default with displayOn := 0x08 }.wellFormed = false := by decide
theorem test_cursor_flag_of_two_bits_refused :
    { FlagConstants.default with cursorOn := 0x03 }.wellFormed = false := by decide
theorem test_blink_flag_zero_refused : { FlagConstants.default with blinkOn := 0x00 }.wellFormed = false := by decide
theorem test_equal_display_flags_refused :
    { FlagConstants.default with cursorOn := 0x04 }.wellFormed = false ∧
    { FlagConstants.default with blinkOn := 0x04 }.wellFormed = false ∧
    { FlagConstants.default with blinkOn := 0x02 }.wellFormed = false := by decide
theorem test_entry_flags_outside_or_equal_refused :
    { FlagConstants.default with entryLeft := 0x04 }.wellFormed = false ∧
    { FlagConstants.default with entryShiftIncrement := 0x04 }.wellFormed = false ∧
    { FlagConstants.default with entryLeft := 0x01 }.wellFormed = false := by decide
theorem test_shift_flag_outside_mask_refused :
    { FlagConstants.default with moveRight := 0x10 }.wellFormed = false := by decide
theorem test_function_flag_outside_mask_refused :
    { FlagConstants.default with line2 := 0x20 }.wellFormed = false := by decide
theorem test_wire_row_is_no_operation : Instr.clearDisplay.isOperation = false := by decide
theorem test_not_emittable :
    (Instr.cursorShift false true).emittable = false ∧ (Instr.functionSet true false false).emittable = false ∧
    (Instr.functionSet false true true).emittable = false := by decide

/-! ## Decoding: a word written out for every row (30_encoding.md R102, R86 to R96, R80) -/

theorem test_decode_display_ops :
    decodeTableWord 24 0x010000 = some .clear ∧ decodeTableWord 24 0x020000 = some .home ∧
    decodeTableWord 24 0x03F001 = some (.setCursor 240 1) ∧ decodeTableWord 24 0x0A0000 = some .scrollLeft ∧
    decodeTableWord 24 0x0B0000 = some .scrollRight := by decide
theorem test_decode_display_control :
    decodeTableWord 24 0x040000 = some .displayOn ∧ decodeTableWord 24 0x050000 = some .displayOff ∧
    decodeTableWord 24 0x060000 = some .cursorOn ∧ decodeTableWord 24 0x070000 = some .cursorOff ∧
    decodeTableWord 24 0x080000 = some .blinkOn ∧ decodeTableWord 24 0x090000 = some .blinkOff := by decide
theorem test_decode_entry_mode :
    decodeTableWord 24 0x0C0000 = some .leftToRight ∧ decodeTableWord 24 0x0D0000 = some .rightToLeft ∧
    decodeTableWord 24 0x0E0000 = some .autoscrollOn ∧ decodeTableWord 24 0x0F0000 = some .autoscrollOff := by decide
theorem test_decode_backlight :
    decodeTableWord 24 0x110000 = some .backlightOn ∧ decodeTableWord 24 0x120000 = some .backlightOff := by decide
theorem test_decode_data :
    decodeTableWord 24 0x13A500 = some (.writeChar 0xA5) ∧
    decode (.operation 0x140000 [0x48, 0x69]) = .ok (.print [0x48, 0x69]) ∧
    decode (.operation 0x100A00 [0x04]) = .ok (.createChar 0x0A [0x04]) := by decide
theorem test_decode_lifecycle :
    decodeTableWord 24 0x150000 = some .start ∧ decodeTableWord 24 0x160000 = some .stop := by decide
/-- V-R1, V-R2, V-R5. -/
theorem test_decode_unassigned :
    decodeTableWord 24 0x000000 = none ∧ decodeTableWord 24 0x170000 = none ∧ decodeTableWord 24 0xFF1234 = none ∧
    decodeTableWord 24 0x0100FF = some .clear := by decide
theorem test_decode_commands :
    decode (.command 0b00000001#8) = .ok .clearDisplay ∧ decode (.command 0b00000010#8) = .ok .returnHome ∧
    decode (.command 0b00000110#8) = .ok (.entryModeSet true false) ∧
    decode (.command 0b00001001#8) = .ok (.displayControl false false true) ∧
    decode (.command 0b00011100#8) = .ok (.cursorShift true true) ∧
    decode (.command 0b00100100#8) = .ok (.functionSet false false true) ∧
    decode (.command 0b01111000#8) = .ok (.setCgramAddr 7) ∧
    decode (.command 0b11000101#8) = .ok (.setDdramAddr 0x45) := by decide
/-- R98: bytes that fit no format. -/
theorem test_decode_no_command :
    decode (.command 0x00) = .error (.notACommandByte 0x00) ∧ decode (.command 0x03) = .error (.notACommandByte 0x03) ∧
    decode (.command 0x29) = .error (.notACommandByte 0x29) ∧
    decode (.command 0x41) = .error (.notACommandByte 0x41) := by decide
theorem test_decode_data_and_expander :
    decode (.data 0x1F) = .ok (.dataByte 0x1F) ∧
    decode (.expander 0b01001101#8) = .ok (.expanderByte 0x4 true true true) ∧
    decode (.expander 0b10010000#8) = .ok (.expanderByte 0x9 false false false) ∧
    decode (.expander 0b00000010#8) = .error (.readWriteBitSet 0x02) := by decide
theorem test_bare_bytes :
    decodeTableWord 8 0x18 = some (.cursorShift true false) ∧ decodeTableWord 8 0x03 = some (.dataByte 0x03) ∧
    decodeTableWord 8 0x00 = some (.expanderByte 0x0 false false false) := by decide

/-! ## The transfer layers -/

/-- V-T6, V-T8: PULSE. -/
theorem test_pulse :
    writtenBytes (pulse 0x41 (fresh 2 8 false (script 2 []))).played.1.trace = [0x45, 0x41] ∧
    (pulse 0x20 (fresh 2 8 true (script 1 [bad]))).played.1.trace =
      [.write DisplayConfig.scenario.addr 0x2C .ok, .delay .tPulse, .write DisplayConfig.scenario.addr 0x28 bad] := by
  decide
/-- V-T11, V-T16: SEND. -/
theorem test_send :
    writtenBytes (data 0xA5 (fresh 2 8 false (script 4 []))).played.1.trace = [0xA5, 0xA1, 0x55, 0x51] ∧
    (send 0x48 0x01 (fresh 2 8 false (script 2 [bad]))).played.2 = some ⟨7⟩ := by decide

/-! ## Display operations -/

/-- V-D1. -/
theorem test_clear :
    seen (exec .clear (ready true 0x04 0x02 (script 4 []))) = ([0x0C, 0x08, 0x1C, 0x18], []) ∧
    waited (exec .clear (ready true 0x04 0x02 (script 4 []))) = 2074900 := by decide
/-- V-D17: T_SETTLE and T_LONG both skipped. -/
theorem test_clear_fourth_write_fails :
    seen (exec .clear (ready false 0x04 0x02 (script 3 [bad]))) = ([0x04, 0x00, 0x14, 0x10], [⟨7⟩]) ∧
    waited (exec .clear (ready false 0x04 0x02 (script 3 [bad]))) = 37900 := by decide
/-- V-D2. -/
theorem test_home :
    seen (exec .home (ready false 0x04 0x02 (script 4 []))) = ([0x04, 0x00, 0x24, 0x20], []) ∧
    waited (exec .home (ready false 0x04 0x02 (script 4 []))) = 2074900 := by decide
/-- V-D7, V-D13. -/
theorem test_setCursor :
    seen (exec (.setCursor 15 5) (fresh 2 8 false (script 4 []))) = ([0xC4, 0xC0, 0xF4, 0xF0], []) ∧
    seen (exec (.setCursor 240 1) (fresh 2 8 false (script 4 []))) = ([0xB4, 0xB0, 0x04, 0x00], []) := by decide
/-- V-D9, V-D12, V-D8. -/
theorem test_setCursor_rows :
    seen (exec (.setCursor 19 3) (fresh 4 8 true (script 4 []))) = ([0xEC, 0xE8, 0x7C, 0x78], []) ∧
    seen (exec (.setCursor 255 3) (fresh 4 8 true (script 4 []))) = ([0xDC, 0xD8, 0x3C, 0x38], []) ∧
    seen (exec (.setCursor 7 1) (fresh 1 8 true (script 4 []))) = ([0x8C, 0x88, 0x7C, 0x78], []) := by decide
/-- V-D3. -/
theorem test_scrollLeft :
    seen (exec .scrollLeft (ready false 0x04 0x02 (script 4 []))) = ([0x14, 0x10, 0x84, 0x80], []) := by decide
/-- V-D4. -/
theorem test_scrollRight :
    seen (exec .scrollRight (ready true 0x04 0x02 (script 4 []))) = ([0x1C, 0x18, 0xCC, 0xC8], []) := by decide

/-! ## Mode operations -/

/-- V-M1. -/
theorem test_displayOn :
    seen (exec .displayOn (ready false 0x00 0x02 (script 4 []))) = ([0x04, 0x00, 0xC4, 0xC0], []) ∧
    registers (exec .displayOn (ready false 0x00 0x02 (script 4 []))) = (.ready, 0x08, 0x04, 0x02, 0x00) := by decide
/-- V-M3, V-M14: a failed write keeps the new value. -/
theorem test_displayOff :
    seen (exec .displayOff (ready false 0x07 0x02 (script 4 []))) = ([0x04, 0x00, 0xB4, 0xB0], []) ∧
    registers (exec .displayOff (ready false 0x04 0x02 (script 1 [bad]))) = (.ready, 0x08, 0x00, 0x02, 0x00) := by decide
/-- V-M4. -/
theorem test_cursorOn :
    seen (exec .cursorOn (ready true 0x04 0x02 (script 4 []))) = ([0x0C, 0x08, 0xEC, 0xE8], []) := by decide
/-- V-M5. -/
theorem test_cursorOff :
    seen (exec .cursorOff (ready true 0x07 0x02 (script 4 []))) = ([0x0C, 0x08, 0xDC, 0xD8], []) := by decide
/-- V-M6. -/
theorem test_blinkOn :
    seen (exec .blinkOn (ready true 0x06 0x02 (script 4 []))) = ([0x0C, 0x08, 0xFC, 0xF8], []) := by decide
/-- V-M7. -/
theorem test_blinkOff :
    seen (exec .blinkOff (ready false 0x01 0x02 (script 4 []))) = ([0x04, 0x00, 0x84, 0x80], []) := by decide
/-- V-M8. -/
theorem test_leftToRight :
    seen (exec .leftToRight (ready false 0x04 0x01 (script 4 []))) = ([0x04, 0x00, 0x74, 0x70], []) ∧
    registers (exec .leftToRight (ready false 0x04 0x01 (script 4 []))) = (.ready, 0x08, 0x04, 0x03, 0x00) := by decide
/-- V-M15. -/
theorem test_rightToLeft_fourth_write_fails :
    seen (exec .rightToLeft (ready true 0x04 0x02 (script 3 [bad]))) = ([0x0C, 0x08, 0x4C, 0x48], [⟨7⟩]) ∧
    registers (exec .rightToLeft (ready true 0x04 0x02 (script 3 [bad]))) = (.ready, 0x08, 0x04, 0x00, 0x08) := by decide
/-- V-M10. -/
theorem test_autoscrollOn :
    seen (exec .autoscrollOn (ready false 0x04 0x00 (script 4 []))) = ([0x04, 0x00, 0x54, 0x50], []) := by decide
/-- V-M11. -/
theorem test_autoscrollOff :
    seen (exec .autoscrollOff (ready false 0x04 0x03 (script 4 []))) = ([0x04, 0x00, 0x64, 0x60], []) := by decide
/-- V-M16. -/
theorem test_backlightOn_write_fails :
    seen (exec .backlightOn (ready false 0x04 0x02 [bad])) = ([0x08], [⟨7⟩]) ∧
    registers (exec .backlightOn (ready false 0x04 0x02 [bad])) = (.ready, 0x08, 0x04, 0x02, 0x08) := by decide
/-- V-M13. -/
theorem test_backlightOff :
    (after (exec .backlightOff (ready true 0x04 0x02 (script 1 [])))).trace =
      [.write DisplayConfig.scenario.addr 0x00 .ok] := by decide

/-! ## Data operations -/

/-- V-X4. -/
theorem test_writeChar :
    seen (exec (.writeChar 0xA5) (ready true 0x04 0x02 (script 4 []))) = ([0xAD, 0xA9, 0x5D, 0x59], []) := by decide
/-- S8, V-X9. -/
theorem test_print :
    seen (exec (.print [0x48, 0x69]) (ready true 0x04 0x02 (script 8 []))) =
      ([0x4D, 0x49, 0x8D, 0x89, 0x6D, 0x69, 0x9D, 0x99], []) ∧
    waited (exec (.print [0x48, 0x69]) (ready true 0x04 0x02 (script 5 [bad]))) = 75350 := by decide
/-- V-X5. -/
theorem test_print_empty : (after (exec (.print []) (ready true 0x04 0x02 []))).trace = [] := by decide
/-- V-X12, V-X15. -/
theorem test_createChar :
    seen (exec (.createChar 255 [0xFF]) (ready false 0x04 0x02 (script 8 []))) =
      ([0x74, 0x70, 0x84, 0x80, 0xF5, 0xF1, 0xF5, 0xF1], []) ∧
    seen (exec (.createChar 0 [0x04, 0x0E]) (ready true 0x04 0x02 (script 6 [bad]))) =
      ([0x4C, 0x48, 0x0C, 0x08, 0x0D, 0x09, 0x4D], [⟨7⟩]) := by decide

/-! ## Lifecycle -/

/-- V-L3. -/
theorem test_start :
    seen (exec .start (fresh 1 10 true (script 29 []))) =
      ([0x08, 0x3C, 0x38, 0x3C, 0x38, 0x3C, 0x38, 0x2C, 0x28, 0x2C, 0x28, 0x4C, 0x48, 0x0C, 0x08, 0xCC, 0xC8, 0x0C,
        0x08, 0x1C, 0x18, 0x0C, 0x08, 0x6C, 0x68, 0x0C, 0x08, 0x2C, 0x28], []) ∧
    registers (exec .start (fresh 1 10 true (script 29 []))) = (.ready, 0x04, 0x04, 0x02, 0x08) ∧
    waited (exec .start (fresh 1 10 true (script 29 []))) = 1053674300 := by decide
/-- R153: the sum of the nominal delays of a successful START. -/
theorem test_start_nominal :
    ((after (exec .start (fresh 2 8 true (script 29 [])))).trace.map (fun ev => match ev with
      | .write _ _ _ => 0
      | .delay t => DisplayConfig.scenario.nominalNs t)).sum = 1063864000 := by decide
/-- V-L4, k = 22. -/
theorem test_start_fails :
    registers (exec .start (fresh 2 8 true (script 21 [bad]))) = (.initializing, 0x08, 0x04, 0x02, 0x08) ∧
    waited (exec .start (fresh 2 8 true (script 21 [bad]))) = 1051524500 := by decide
/-- V-L6. -/
theorem test_stop :
    seen (exec .stop (ready true 0x07 0x02 (script 13 []))) =
      ([0x0C, 0x08, 0x1C, 0x18, 0x00, 0x04, 0x00, 0xD4, 0xD0, 0x04, 0x00, 0x94, 0x90], []) ∧
    registers (exec .stop (ready true 0x07 0x02 (script 13 []))) = (.ready, 0x08, 0x01, 0x02, 0x00) ∧
    waited (exec .stop (ready true 0x07 0x02 (script 13 []))) = 2224700 := by decide
/-- V-L8. -/
theorem test_stop_every_part_fails :
    seen (exec .stop (ready true 0x07 0x02 [.fail ⟨1⟩, .fail ⟨2⟩, .fail ⟨3⟩, .fail ⟨4⟩])) =
      ([0x0C, 0x00, 0x04, 0x04], [⟨1⟩, ⟨2⟩, ⟨3⟩, ⟨4⟩]) ∧
    registers (exec .stop (ready true 0x07 0x02 [.fail ⟨1⟩, .fail ⟨2⟩, .fail ⟨3⟩, .fail ⟨4⟩])) =
      (.ready, 0x08, 0x01, 0x02, 0x00) := by decide

/-! ## Wire-level rows: the bytes of R125 and R80 -/

theorem test_wire_commands :
    seen (exec .clearDisplay (ready false 0x04 0x02 (script 4 []))) = ([0x04, 0x00, 0x14, 0x10], []) ∧
    seen (exec .returnHome (ready false 0x04 0x02 (script 4 []))) = ([0x04, 0x00, 0x24, 0x20], []) ∧
    seen (exec (.entryModeSet true false) (ready false 0x04 0x02 (script 4 []))) = ([0x04, 0x00, 0x64, 0x60], []) ∧
    seen (exec (.displayControl true true false) (ready false 0x04 0x02 (script 4 []))) =
      ([0x04, 0x00, 0xE4, 0xE0], []) := by decide
theorem test_wire_commands_with_fields :
    seen (exec (.cursorShift true true) (ready false 0x04 0x02 (script 4 []))) = ([0x14, 0x10, 0xC4, 0xC0], []) ∧
    seen (exec (.functionSet false true false) (ready true 0x04 0x02 (script 4 []))) =
      ([0x2C, 0x28, 0x8C, 0x88], []) ∧
    seen (exec (.setCgramAddr 2) (ready false 0x04 0x02 (script 4 []))) = ([0x54, 0x50, 0x04, 0x00], []) ∧
    seen (exec (.setDdramAddr 0x45) (ready false 0x04 0x02 (script 4 []))) = ([0xC4, 0xC0, 0x54, 0x50], []) := by decide
/-- V-T10, V-T4. -/
theorem test_wire_bytes :
    seen (exec (.dataByte 0xFF) (ready true 0x04 0x02 (script 4 []))) = ([0xFD, 0xF9, 0xFD, 0xF9], []) ∧
    seen (exec (.expanderByte 0xF true true true) (ready true 0x04 0x02 (script 1 []))) = ([0xFD], []) := by decide

/-! ## The step -/

/-- The host presents WRITE_CHAR 0x48 (V-X1). -/
theorem test_step :
    seen (step ((ready false 0x04 0x02 (script 4 [])).withFetchWord 24 0x134800)) = ([0x45, 0x41, 0x85, 0x81], []) := by
  decide

/-! ## Witnesses: for each statement with hypotheses, a concrete case that meets all of them -/

/-- A block that has just been constructed, with enough `ok` answers for any single operation here. -/
def fine : State := fresh 2 8 true (script 29 [])

theorem witness_ConstructionLeavesTheResetState : (config 2 8).wellFormed = true := by decide
theorem witness_ConstructedStatesAreLegal :
    (State.Over.construct (config 4 10) true 0x30 : Option State) = some (State.Over.initial (config 4 10) true 0x30) := by
  decide
theorem witness_IllFormedConfigurationIsRefused :
    (config 0 8).rows = 0 ∧ 4 < (config 5 8).rows ∧ ((config 2 7).dots ≠ 8 ∧ (config 2 7).dots ≠ 10) ∧
    (fresh 0 8 true []).cfg = config 0 8 := by decide
theorem witness_StepRunsThePresentedRequest :
    (fine.present (.command 0x01)).requests = .command 0x01 :: [] ∧ decode (.command 0x01) = .ok .clearDisplay ∧
    decodeTableWord 24 0x030501 = some (.setCursor 5 1) := by decide
theorem witness_IdleStepChangesNothing : fine.requests = [] := by decide
theorem witness_UnassignedSelectorsAreRefused :
    reqSelector 0x000000 = 0x00 ∧ 0x17 ≤ (reqSelector 0x170000).toNat ∧ 0x17 ≤ (reqSelector 0xFF1234).toNat ∧
    (fine.present (.operation 0x170000 [])).requests = .operation 0x170000 [] :: [] := by decide
theorem witness_InnerBytesHaveOneMeaning :
    (Request.expander 0x3C).fromHost = false ∧ decode (.expander 0x3C) = .ok (.expanderByte 0x3 true true false) ∧
    (Request.command 0xFF).fromHost = false ∧ decode (.command 0xFF) = .ok (.setDdramAddr 0x7F) ∧
    (Request.data 0x00).fromHost = false ∧ decode (.data 0x00) = .ok (.dataByte 0x00) := by decide
theorem witness_ExpanderByteIsComposed :
    fine.bl = (if true then 0x08 else 0x00) ∧ (fresh 2 8 false []).bl = (if false then 0x08 else 0x00) := by decide
theorem witness_PulseWritesHighThenLow : (0xF1 : Byte) &&& 0x0E = 0x00 := by decide
/-- The one hypothesis of ClearAndHomeSendThenSettle, ScrollSendsItsCommand, SetCursorSendsTheAddress,
DisplayControlOperationsResendDctl, EntryModeOperationsResendEmode, BacklightOperationsWriteOneByte,
WriteCharSendsOneDataByte, PrintSendsItsBytesInOrder, CreateCharSendsAddressThenRows and WireRowsSendTheirByte. -/
theorem witness_admitted_state : fine.cfg.wellFormed = true := by decide
/-- The row cases of SetCursorSendsTheAddress at their boundaries: ROWS = 4, rows 0 to 3 and the clamped row 4. -/
theorem witness_SetCursorSendsTheAddress :
    (config 4 8).wellFormed = true ∧ clampRow 4 0 = 0 ∧ clampRow 4 1 = 1 ∧ clampRow 4 2 = 2 ∧ clampRow 4 3 = 3 ∧
    clampRow 4 4 = 3 ∧ clampRow 4 255 = 3 ∧ clampRow 1 0 = 0 ∧ clampRow 1 1 = 0 := by decide
theorem witness_SetCursorClampsTheRow :
    fine.cfg.wellFormed = true ∧ fine.cfg.rows ≤ (2 : Byte).toNat ∧ (1 : Byte).toNat < fine.cfg.rows := by decide
theorem witness_ReissuedModeOperationKeepsTheRegisters :
    Instr.cursorOn ∈ [Instr.displayOn, .displayOff, .cursorOn, .cursorOff, .blinkOn, .blinkOff, .leftToRight,
      .rightToLeft, .autoscrollOn, .autoscrollOff, .backlightOn, .backlightOff] ∧
    exec .cursorOn fine = .next (after (exec .cursorOn fine)) ∧
    exec .cursorOn (after (exec .cursorOn fine)) = .next (after (exec .cursorOn (after (exec .cursorOn fine)))) :=
  ⟨by decide, rfl, rfl⟩
theorem witness_PrintIsRepeatedWriteChar :
    exec (.writeChar 0x48) fine = .next (after (exec (.writeChar 0x48) fine)) ∧
    (after (exec (.writeChar 0x48) fine)).errs = [] ∧
    exec (.writeChar 0x48) (fresh 2 8 true [bad]) = .next (after (exec (.writeChar 0x48) (fresh 2 8 true [bad]))) ∧
    (after (exec (.writeChar 0x48) (fresh 2 8 true [bad]))).errs ≠ [] :=
  ⟨rfl, by decide, rfl, by decide⟩
theorem witness_CreateCharMasksTheSlot : (10 : Byte) &&& 0x07 = (2 : Byte) &&& 0x07 := by decide
theorem witness_StartPlaysTheNineSteps : fine.cfg.wellFormed = true ∧ fine.phase = .uninitialized := by decide
theorem witness_StartIsRefusedOutsideUninitialized :
    (ready true 0x04 0x02 []).cfg.wellFormed = true ∧ (ready true 0x04 0x02 []).phase ≠ .uninitialized := by decide
theorem witness_FunctionFlagsFollowRowsAndDots :
    (config 1 10).wellFormed = true ∧ (config 1 10).flags = FlagConstants.default ∧ (config 1 10).rows = 1 ∧
    (config 1 10).dots = 10 ∧ (config 1 8).wellFormed = true ∧ (config 1 8).dots = 8 ∧
    (config 2 10).wellFormed = true ∧ 1 < (config 2 10).rows := by decide
theorem witness_SuccessfulStartIsObservedWhole :
    fine.cfg.wellFormed = true ∧ fine.cfg.flags = FlagConstants.default ∧ fine.phase = .uninitialized ∧
    fine.succeeds 29 := by
  simp only [State.Over.succeeds]
  decide
theorem witness_StopIsItsFourParts :
    ∃ t₁ t₂ t₃ t₄, exec .clear fine = .next t₁ ∧ exec .backlightOff t₁ = .next t₂ ∧ exec .cursorOff t₂ = .next t₃ ∧
      exec .displayOff t₃ = .next t₄ :=
  ⟨_, _, _, _, rfl, rfl, rfl, rfl⟩
/-- The hypotheses of StopEndsDark, EveryByteCarriesTheBacklight, ReadWriteBitIsNeverSet, EnablePulsesAreTimed,
ReceiverReadsBackTheValuesSent and LinesHoldTheLastByte. -/
theorem witness_legal_state_runs_an_operation :
    fine.Legal ∧ Instr.stop.isOperation = true ∧ exec .stop fine = .next (after (exec .stop fine)) ∧
    (after (exec .stop fine)).errs = [] ∧ Instr.home.isOperation = true ∧ Instr.home ≠ .stop ∧
    exec .home fine = .next (after (exec .home fine)) ∧ (after (exec .home fine)).errs = [] := by
  refine ⟨?_, by decide, rfl, by decide, by decide, by decide, rfl, by decide⟩
  simp only [State.Over.Legal]
  decide
theorem witness_EveryStepKeepsLegalRegisters :
    (fine.withFetchWord 24 0x150000).Legal ∧
    step (fine.withFetchWord 24 0x150000) = .next (after (step (fine.withFetchWord 24 0x150000))) := by
  refine ⟨?_, rfl⟩
  simp only [State.Over.Legal]
  decide
theorem witness_ReadyMeansFunctionSetHolds :
    (ready true 0x04 0x02 (script 4 [])).FunctionSet ∧ (ready true 0x04 0x02 (script 4 [])).phase = .ready ∧
    exec .clear (ready true 0x04 0x02 (script 4 [])) = .next (after (exec .clear (ready true 0x04 0x02 (script 4 [])))) := by
  refine ⟨?_, by decide, rfl⟩
  simp only [State.Over.FunctionSet]
  decide
theorem witness_EveryAdmittedInstructionCompletes :
    fine.cfg.wellFormed = true ∧ (Instr.start = .start → fine.phase = .uninitialized) ∧
    (ready true 0x04 0x02 []).cfg.wellFormed = true ∧
    (Instr.stop = .start → (ready true 0x04 0x02 []).phase = .uninitialized) := by decide
/-- The hypothesis "exec answers a next state" of PhaseMovesForwardByStartOnly, RegistersAreWrittenOnlyAsTabled,
EveryWriteIsTracedAndAnswered and TheFirstFailureEndsTheOperation, for a run that succeeds and one that fails. -/
theorem witness_exec_answers_next :
    exec .start fine = .next (after (exec .start fine)) ∧ (after (exec .start fine)).phase = .ready ∧
    exec .start (fresh 2 8 true [bad]) = .next (after (exec .start (fresh 2 8 true [bad]))) ∧
    (after (exec .start (fresh 2 8 true [bad]))).phase = .initializing :=
  ⟨rfl, by decide, rfl, by decide⟩
theorem witness_WritesAndDelaysAreAsTabled :
    exec (.print [0x48]) fine = .next (after (exec (.print [0x48]) fine)) ∧
    (after (exec (.print [0x48]) fine)).errs = [] ∧ fine.cfg.wellFormed = true ∧
    fine.succeeds (writeCount (.print [0x48])) := by
  refine ⟨rfl, by decide, by decide, ?_⟩
  simp only [State.Over.succeeds]
  decide
/-- DISPLAY_ON sends 0x0C from `fine`; and START sends 0x28 first, after its nine raw bytes, up to a failure. -/
theorem witness_CommandBytesSentAreEmittable :
    fine.Legal ∧ fine.cfg.flags = FlagConstants.default ∧ Instr.start.isOperation = true ∧
    exec .displayOn fine = .next (after (exec .displayOn fine)) ∧
    succeededRuns (after (exec .displayOn fine)).trace = [[0x0C, 0x08, 0xCC, 0xC8]] ∧
    readBack [0x0C, 0x08, 0xCC, 0xC8] = ([(false, 0x0C)], []) ∧
    succeededRuns (after (exec .start (fresh 2 8 true (script 15 [bad])))).trace =
      [[0x08, 0x3C, 0x38, 0x3C, 0x38, 0x3C, 0x38, 0x2C, 0x28, 0x2C, 0x28, 0x8C, 0x88, 0x0C, 0x08], []] ∧
    readBack [0x2C, 0x28, 0x8C, 0x88, 0x0C, 0x08] = ([(false, 0x28)], [0x0C, 0x08]) := by
  refine ⟨?_, by decide, by decide, rfl, by decide, by decide, by decide, by decide⟩
  simp only [State.Over.Legal]
  decide
/-- The two cases of EveryByteCarriesTheBacklight beside STOP: BACKLIGHT_OFF changes BL, HOME does not. -/
theorem witness_EveryByteCarriesTheBacklight :
    exec .backlightOff fine = .next (after (exec .backlightOff fine)) ∧
    seen (exec .backlightOff fine) = ([0x00], []) ∧ fine.bl = 0x08 ∧
    seen (exec .home fine) = ([0x0C, 0x08, 0x2C, 0x28], []) := ⟨rfl, by decide, by decide, by decide⟩
/-- START in ReceiverReadsBackTheValuesSent: nine raw bytes, then its five command bytes (V-L1 to V-L3). -/
theorem witness_ReceiverReadsBackTheValuesSent :
    exec .start fine = .next (after (exec .start fine)) ∧ (after (exec .start fine)).errs = [] ∧
    (writtenBytes (after (exec .start fine)).trace).take 9 =
      [0x08, 0x3C, 0x38, 0x3C, 0x38, 0x3C, 0x38, 0x2C, 0x28] ∧
    (writtenBytes (after (exec .start fine)).trace).drop 9 =
      [0x2C, 0x28, 0x8C, 0x88, 0x0C, 0x08, 0xCC, 0xC8, 0x0C, 0x08, 0x1C, 0x18, 0x0C, 0x08, 0x6C, 0x68, 0x0C, 0x08, 0x2C,
        0x28] ∧
    readBack [0x2C, 0x28, 0x8C, 0x88, 0x0C, 0x08, 0xCC, 0xC8, 0x0C, 0x08, 0x1C, 0x18, 0x0C, 0x08, 0x6C, 0x68, 0x0C, 0x08,
        0x2C, 0x28] = ([(false, 0x28), (false, 0x0C), (false, 0x01), (false, 0x06), (false, 0x02)], []) :=
  ⟨rfl, by decide, by decide, by decide, by decide⟩
theorem witness_EveryStepKeepsTheTraceSound :
    ((after (exec .home fine)).withFetchWord 24 0x040000).TraceSound ∧
    (after (exec .home fine)).trace ≠ [] ∧
    step ((after (exec .home fine)).withFetchWord 24 0x040000) =
      .next (after (step ((after (exec .home fine)).withFetchWord 24 0x040000))) := by
  refine ⟨?_, by decide, rfl⟩
  simp only [State.Over.TraceSound]
  decide
/-- Errors renamed into another type: seven becomes `true`. -/
theorem witness_TransportErrorsAreOpaque :
    writeCount .home ≤ (fresh 2 8 true (script 2 [bad, .ok])).answers.length ∧
    execAt .home ((fresh 2 8 true (script 2 [bad, .ok])).rename (fun e => e.code == 7)) =
      .next ((after (exec .home (fresh 2 8 true (script 2 [bad, .ok])))).rename (fun e => e.code == 7)) ∧
    ((after (exec .home (fresh 2 8 true (script 2 [bad, .ok])))).rename (fun e => e.code == 7)).errs = [true] :=
  ⟨by decide, rfl, by decide⟩
/-- Neighbouring delays add (T_PULSE and T_SETTLE in either order); and two traces that differ in an answer only are
different observations (R19). -/
theorem witness_ObservationIsWritesAnswersAndDelaySums :
    (([.tPulse, .tSettle] : List Delay).map Delay.minNs).sum = (([.tSettle, .tPulse] : List Delay).map Delay.minNs).sum ∧
    observe 0 [.write ⟨8, 0⟩ 0x08 bad, .delay .tPulse, .delay .tSettle] = ([(0, 0x08, bad)], 37450) ∧
    observe 0 [.write ⟨8, 0⟩ 0x08 bad] ≠ observe 0 [.write ⟨8, 0⟩ 0x08 .ok] := by decide

theorem witness_LinesHoldTheLastByte :
    exec .home fine = .next (after (exec .home fine)) ∧ (after (exec .home fine)).errs = [] ∧
    fine.lines &&& 0x04 = 0x00 ∧ Instr.home ≠ .stop := ⟨rfl, by decide, by decide, by decide⟩

end Sys2Proof.Tests
end

section
/-! PROOFS. The statements of 00_scope.md. The lemmas go from the step and the observation, which stand alone, to the account
of `execAt` as a whole: every instruction plays the parts that `operationParts` lists (`execAt_of_ne_start`,
`execStart_eq`). What an instruction does to the trace, and that renaming the transport's errors commutes with it, is then
an induction over those parts. -/

namespace Sys2Proof.Machine

variable {E : Type}

/-! ## The step (R4, R40; log 1) -/

theorem step_of_requests_nil {s : State} (h : s.requests = []) : step s = .next s := by
  simp [step, h]

theorem step_of_decode {s : State} {r : Request} {rest : List Request} {i : Instr} (hr : s.requests = r :: rest)
    (hd : decode r = .ok i) : step s = exec i (s.setRequests rest) := by
  simp [step, hr, hd]

theorem decode_of_decodeTableWord {nbits w : Nat} {i : Instr} (h : decodeTableWord nbits w = some i) :
    decode (tableRequest nbits w) = .ok i := by
  unfold decodeTableWord at h
  split at h
  · next j hj => rw [hj, Option.some.inj h]
  · cases h

/-- Settles O5: the idle arm of `step`. -/
theorem idleStepChangesNothing : Obligations.IdleStepChangesNothing :=
  fun _ h => step_of_requests_nil h

/-- Settles O4: the first item's arm of `step`; taking the word that `withFetchWord` presents gives the state back. -/
theorem stepRunsThePresentedRequest : Obligations.StepRunsThePresentedRequest :=
  ⟨fun _ _ _ _ hr hd => step_of_decode hr hd, fun _ _ _ _ hw => step_of_decode rfl (decode_of_decodeTableWord hw)⟩

/-! ## The observation of a trace (R19) -/

/-- The observation of a trace goes on after any piece of it with what that piece has waited since its last write. -/
theorem observe_append (before : Nat) (es es' : List (Event E)) :
    observe before (es ++ es') =
      ((observe before es).1 ++ (observe (observe before es).2 es').1, (observe (observe before es).2 es').2) := by
  induction es generalizing before with
  | nil => rfl
  | cons e es ih => cases e <;> simp [observe, ih]

theorem writtenBytes_eq_observe (before : Nat) (es : List (Event E)) :
    writtenBytes es = (observe before es).1.map (fun w => w.2.1) := by
  induction es generalizing before with
  | nil => rfl
  | cons e es ih =>
    cases e with
    | write addr d a => simp [writtenBytes, observe, ← ih]
    | delay t => simp [writtenBytes, observe, ← ih]

theorem answersGiven_eq_observe (before : Nat) (es : List (Event E)) :
    answersGiven es = (observe before es).1.map (fun w => w.2.2) := by
  induction es generalizing before with
  | nil => rfl
  | cons e es ih =>
    cases e with
    | write addr d a => simp [answersGiven, observe, ← ih]
    | delay t => simp [answersGiven, observe, ← ih]

/-- The waits before the writes and the wait after the last one add up to the time waited. -/
theorem minimumNs_eq_observe (before : Nat) (es : List (Event E)) :
    before + minimumNs es = ((observe before es).1.map (fun w => w.1)).sum + (observe before es).2 := by
  induction es generalizing before with
  | nil => simp [minimumNs, observe]
  | cons e es ih =>
    cases e with
    | write addr d a =>
      have h := ih 0
      simp only [minimumNs, observe, List.map_cons, List.sum_cons]
      omega
    | delay t =>
      have h := ih (before + t.minNs)
      simp only [minimumNs, observe]
      omega

theorem sameObservation_of_sum_eq (before after : List (Event E)) {ds ds' : List Delay}
    (h : (ds.map Delay.minNs).sum = (ds'.map Delay.minNs).sum) :
    SameObservation (before ++ ds.map .delay ++ after) (before ++ ds'.map .delay ++ after) := by
  simp only [SameObservation, List.append_assoc, observe_append 0 before, observe_delays, h]

/-- Settles O53: delays act on the observation by their sum, and each of the three readings of a trace is one of its
observation. -/
theorem observationIsWritesAnswersAndDelaySums : Obligations.ObservationIsWritesAnswersAndDelaySums := by
  refine ⟨fun _ before after _ _ h => sameObservation_of_sum_eq before after h, fun E es es' h => ⟨?_, ?_, ?_⟩⟩
  · rw [writtenBytes_eq_observe 0 es, h, ← writtenBytes_eq_observe]
  · rw [answersGiven_eq_observe 0 es, h, ← answersGiven_eq_observe]
  · have hs := minimumNs_eq_observe 0 es
    rw [h, ← minimumNs_eq_observe] at hs
    omega

/-! ## What a script keeps -/

/-- A script does not read the response. -/
theorem State.setErrs_play (script : List Act) (errs : List E) (s : State.Over E) :
    (s.setErrs errs).play script = ((s.play script).1.setErrs errs, (s.play script).2) := by
  induction script generalizing s with
  | nil => rfl
  | cons a as ih =>
    cases a with
    | put d =>
      simp only [State.Over.play, State.setErrs_nextAnswer]
      cases s.nextAnswer with
      | ok => exact ih (s.recordWrite d .ok)
      | fail e => rfl
    | wait t => exact ih (s.recordDelay t)
    | setPhase p => exact ih (s.setPhase p)
    | setFunc v => exact ih (s.setFunc v)
    | setDctl v => exact ih (s.setDctl v)
    | setEmode v => exact ih (s.setEmode v)
    | setBl v => exact ih (s.setBl v)

theorem State.play_cfg (script : List Act) (s : State.Over E) : (s.play script).1.cfg = s.cfg := by
  obtain ⟨_, _, _, _, _, _, _, hcfg, _⟩ := State.play_accounts script s
  exact hcfg

theorem State.play_errs (script : List Act) (s : State.Over E) : (s.play script).1.errs = s.errs := by
  obtain ⟨_, _, _, _, _, _, _, _, _, herrs⟩ := State.play_accounts script s
  exact herrs

/-- The script does not write BL. -/
def KeepsBacklight (script : List Act) : Prop := ∀ v, .setBl v ∉ script

theorem KeepsBacklight.append {xs ys : List Act} (hx : KeepsBacklight xs) (hy : KeepsBacklight ys) :
    KeepsBacklight (xs ++ ys) := fun v hv => (List.mem_append.mp hv).elim (hx v) (hy v)

theorem State.play_bl {script : List Act} (h : KeepsBacklight script) (s : State.Over E) :
    (s.play script).1.bl = s.bl := by
  induction script generalizing s with
  | nil => rfl
  | cons a as ih =>
    have hrest : KeepsBacklight as := fun v hv => h v (List.mem_cons_of_mem _ hv)
    cases a with
    | put d =>
      cases hn : s.nextAnswer with
      | ok => simpa [State.Over.play, hn] using ih hrest (s.recordWrite d .ok)
      | fail e => simp [State.Over.play, hn]
    | wait t => exact ih hrest (s.recordDelay t)
    | setPhase p => exact ih hrest (s.setPhase p)
    | setFunc v => exact ih hrest (s.setFunc v)
    | setDctl v => exact ih hrest (s.setDctl v)
    | setEmode v => exact ih hrest (s.setEmode v)
    | setBl v => exact absurd (List.mem_cons_self ..) (h v)

/-! ## Procedures that follow a script -/

/-- The procedure plays the script, which is read off the configuration and BL as they are when it starts, and it leaves
BL alone, so that what comes next starts with the same two. -/
structure Follows (body : State.Over E → Result E) (script : DisplayConfig → Byte → List Act) : Prop where
  plays : ∀ s, (body s).played = s.play (script s.cfg s.bl)
  keeps : ∀ c bl, KeepsBacklight (script c bl)

theorem Follows.congr {body : State.Over E → Result E} {script script' : DisplayConfig → Byte → List Act}
    (h : Follows body script) (hs : ∀ c bl, script c bl = script' c bl) : Follows body script' := by
  rwa [show script' = script from funext fun c => funext fun bl => (hs c bl).symm]

/-- Two procedures in sequence follow their two scripts in sequence. -/
theorem Follows.andThen {body body' : State.Over E → Result E} {script script' : DisplayConfig → Byte → List Act}
    (h : Follows body script) (h' : Follows body' script') :
    Follows (fun s => (body s).andThen body') (fun c bl => script c bl ++ script' c bl) where
  plays s := by
    refine Result.andThen_played (h.plays s) fun t ht => ?_
    have hplay : s.play (script s.cfg s.bl) = (t, none) := Result.play_of_done (h.plays s) ht
    have hcfg : t.cfg = s.cfg := by simpa [hplay] using State.play_cfg (script s.cfg s.bl) s
    have hbl : t.bl = s.bl := by simpa [hplay] using State.play_bl (h.keeps s.cfg s.bl) s
    rw [h'.plays t, hcfg, hbl]
  keeps c bl := (h.keeps c bl).append (h'.keeps c bl)

theorem xwrite_follows (n rs en : Byte) : Follows (E := E) (xwrite n rs en) (fun _ bl => [.put (compose n rs en bl)]) where
  plays s := xwrite_played n rs en s
  keeps _ _ := by simp [KeepsBacklight]

theorem delay_follows (t : Delay) : Follows (E := E) (delay t) (fun _ _ => [.wait t]) where
  plays s := delay_played t s
  keeps _ _ := by simp [KeepsBacklight]

/-- A byte with no nibble, RS or EN is the backlight flag (R143, R193). -/
theorem compose_zero (bl : Byte) : compose 0x00 0x00 0x00 bl = bl := by simp [compose]

/-- Steps (a) and (c) of a pulse take the high nibble and RS of `v`, which is all of `v` when bits 3 to 1 are clear. -/
theorem nibble_or_registerSelect {v : Byte} (h : v &&& 0x0E = 0x00) : (v &&& 0xF0) ||| (v &&& RS) = v := by
  calc (v &&& 0xF0) ||| (v &&& RS) = (v &&& 0xF0) ||| (v &&& RS) ||| (v &&& 0x0E) := by rw [h]; exact BitVec.or_zero.symm
    _ = v &&& BitVec.allOnes 8 := by rw [← BitVec.and_or_distrib_left, ← BitVec.and_or_distrib_left]; rfl
    _ = v := BitVec.and_allOnes

/-- PULSE (R122), for a value without EN, RW and BL bits. -/
theorem pulse_follows {v : Byte} (h : v &&& 0x0E = 0x00) : Follows (E := E) (pulse v) (fun _ bl => scriptPulse bl v) := by
  have hp := (((xwrite_follows (E := E) (v &&& 0xF0) (v &&& RS) EN).andThen (delay_follows .tPulse)).andThen
    (xwrite_follows (v &&& 0xF0) (v &&& RS) 0x00)).andThen (delay_follows .tSettle)
  simp only [compose, nibble_or_registerSelect h] at hp
  exact hp.congr fun _ bl => by rw [show v ||| 0x00 = v from BitVec.or_zero]; rfl

/-- SEND (R125), for a register-select without EN, RW and BL bits. -/
theorem send_follows (v : Byte) {rs : Byte} (h : rs &&& 0x0E = 0x00) :
    Follows (E := E) (send v rs) (fun _ bl => scriptSend bl v rs) := by
  have hpulse (u : Byte) : ((u &&& 0xF0) ||| rs) &&& 0x0E = 0x00 := by
    rw [BitVec.and_or_distrib_right, BitVec.and_assoc, h]
    simp
  exact (pulse_follows (hpulse v)).andThen (pulse_follows (hpulse (v <<< 4)))

theorem command_follows (c : Byte) : Follows (E := E) (command c) (fun _ bl => scriptCommand bl c) :=
  send_follows c (by decide)

theorem data_follows (c : Byte) : Follows (E := E) (data c) (fun _ bl => scriptData bl c) :=
  send_follows c (by decide)

theorem dataList_follows (cs : List Byte) : Follows (E := E) (dataList cs) (fun _ bl => scriptDataList bl cs) := by
  induction cs with
  | nil => exact ⟨fun _ => rfl, fun _ _ _ => List.not_mem_nil⟩
  | cons c cs ih => exact (data_follows c).andThen ih

/-! ## The bodies of the operations -/

theorem clearBody_follows : Follows (E := E) clearBody (fun _ bl => scriptCommand bl 0x01 ++ [Act.wait .tLong]) :=
  (command_follows 0x01).andThen (delay_follows .tLong)

theorem homeBody_follows : Follows (E := E) homeBody (fun _ bl => scriptCommand bl 0x02 ++ [Act.wait .tLong]) :=
  (command_follows 0x02).andThen (delay_follows .tLong)

theorem createCharBody_follows (slot : Byte) (rows : List Byte) :
    Follows (E := E) (createCharBody slot rows)
      (fun _ bl => scriptCommand bl (createCharCommand slot) ++ scriptDataList bl rows) :=
  (command_follows _).andThen (dataList_follows rows)

theorem emitDisplayControl_played (v : Byte) (s : State.Over E) :
    (emitDisplayControl v s).played = s.play (scriptDctl s.bl v) := (command_follows _).plays (s.setDctl v)

theorem emitEntryMode_played (v : Byte) (s : State.Over E) :
    (emitEntryMode v s).played = s.play (scriptEmode s.bl v) := (command_follows _).plays (s.setEmode v)

/-- The backlight operations (R193) do not follow a script in the sense of `Follows`: they write BL. -/
theorem switchBacklight_played (v : Byte) (s : State.Over E) :
    (switchBacklight v s).played = s.play [.setBl v, .put v] := by
  have h := xwrite_played 0x00 0x00 0x00 (s.setBl v)
  rwa [compose_zero] at h

/-! ## START (R140) -/

theorem startStep2_follows : Follows (E := E) startStep2 (fun _ bl => [.put bl, .wait .tIdle]) :=
  ((xwrite_follows 0x00 0x00 0x00).andThen (delay_follows .tIdle)).congr fun _ bl => by rw [compose_zero]; rfl

theorem startStep3_follows : Follows (E := E) startStep3 (fun _ bl =>
    scriptPulse bl 0x30 ++ [Act.wait .tInit1] ++ scriptPulse bl 0x30 ++ [Act.wait .tInit2] ++ scriptPulse bl 0x30
      ++ [Act.wait .tInit3]) :=
  have h : Follows (E := E) (nibble 0x30) (fun _ bl => scriptPulse bl 0x30) := pulse_follows (by decide)
  ((((h.andThen (delay_follows .tInit1)).andThen h).andThen (delay_follows .tInit2)).andThen h).andThen
    (delay_follows .tInit3)

theorem startStep4_follows : Follows (E := E) startStep4 (fun _ bl => scriptPulse bl 0x20) := pulse_follows (by decide)

theorem startStep5_follows : Follows (E := E) startStep5
    (fun c bl => .setFunc (functionFlags c) :: scriptCommand bl (0x20 ||| functionFlags c)) where
  plays s := (command_follows _).plays (s.setFunc (functionFlags s.cfg))
  keeps _ _ := by simp [KeepsBacklight, scriptCommand, scriptSend]

theorem startStep6_follows : Follows (E := E) startStep6 (fun c bl => scriptDctl bl c.flags.displayOn) where
  plays s := emitDisplayControl_played _ s
  keeps _ _ := by simp [KeepsBacklight, scriptDctl, scriptCommand, scriptSend]

theorem startStep8_follows : Follows (E := E) startStep8 (fun c bl => scriptEmode bl c.flags.entryLeft) where
  plays s := emitEntryMode_played _ s
  keeps _ _ := by simp [KeepsBacklight, scriptEmode, scriptCommand, scriptSend]

theorem startBody_follows : Follows (E := E) startBody scriptStart := by
  have hfirst : Follows (E := E) (fun s => startStep1 (s.setPhase .initializing))
      (fun _ _ => [.setPhase .initializing, .wait .tPower]) := ⟨fun _ => rfl, by simp [KeepsBacklight]⟩
  have hlast : Follows (E := E) (fun s => .done (s.setPhase .ready)) (fun _ _ => [.setPhase .ready]) :=
    ⟨fun _ => rfl, by simp [KeepsBacklight]⟩
  have h := ((((((((hfirst.andThen startStep2_follows).andThen startStep3_follows).andThen startStep4_follows).andThen
    startStep5_follows).andThen startStep6_follows).andThen clearBody_follows).andThen startStep8_follows).andThen
    homeBody_follows).andThen hlast
  exact h.congr fun c bl => by simp [scriptStart, functionFlags]

/-! ## An instruction as the list of its parts -/

/-- One part of an operation: a script played to its first failure, which is added to the response. -/
def State.Over.playPart (s : State.Over E) (script : List Act) : State.Over E :=
  (s.play script).1.setErrs (s.errs ++ (s.play script).2.toList)

/-- An operation made of parts: every part is played, whatever failed before it (R156, R158). -/
def State.Over.playParts (s : State.Over E) (parts : List (List Act)) : State.Over E :=
  parts.foldl State.Over.playPart (s.setErrs [])

/-- The parts of each instruction in state `s`: four for STOP (R156), one for every other. -/
def operationParts (i : Instr) (s : State.Over E) : List (List Act) :=
  match i with
  | .clear => [scriptCommand s.bl 0x01 ++ [Act.wait .tLong]]
  | .home => [scriptCommand s.bl 0x02 ++ [Act.wait .tLong]]
  | .setCursor col row => [scriptCommand s.bl (setCursorCommand s.cfg.rows col row)]
  | .displayOn => [scriptDctl s.bl (setFlag s.dctl s.cfg.flags.displayOn)]
  | .displayOff => [scriptDctl s.bl (clearFlag s.dctl s.cfg.flags.displayOn)]
  | .cursorOn => [scriptDctl s.bl (setFlag s.dctl s.cfg.flags.cursorOn)]
  | .cursorOff => [scriptDctl s.bl (clearFlag s.dctl s.cfg.flags.cursorOn)]
  | .blinkOn => [scriptDctl s.bl (setFlag s.dctl s.cfg.flags.blinkOn)]
  | .blinkOff => [scriptDctl s.bl (clearFlag s.dctl s.cfg.flags.blinkOn)]
  | .scrollLeft => [scriptCommand s.bl (scrollLeftCommand s.cfg.flags)]
  | .scrollRight => [scriptCommand s.bl (scrollRightCommand s.cfg.flags)]
  | .leftToRight => [scriptEmode s.bl (setFlag s.emode s.cfg.flags.entryLeft)]
  | .rightToLeft => [scriptEmode s.bl (clearFlag s.emode s.cfg.flags.entryLeft)]
  | .autoscrollOn => [scriptEmode s.bl (setFlag s.emode s.cfg.flags.entryShiftIncrement)]
  | .autoscrollOff => [scriptEmode s.bl (clearFlag s.emode s.cfg.flags.entryShiftIncrement)]
  | .createChar slot rows => [scriptCommand s.bl (createCharCommand slot) ++ scriptDataList s.bl rows]
  | .backlightOn => [[.setBl 0x08, .put 0x08]]
  | .backlightOff => [[.setBl 0x00, .put 0x00]]
  | .writeChar byte => [scriptData s.bl byte]
  | .print text => [scriptDataList s.bl text]
  | .start => [scriptStart s.cfg s.bl]
  | .stop =>
    [scriptCommand s.bl 0x01 ++ [Act.wait .tLong], [.setBl 0x00, .put 0x00],
     scriptDctl 0x00 (clearFlag s.dctl s.cfg.flags.cursorOn),
     scriptDctl 0x00 (clearFlag (clearFlag s.dctl s.cfg.flags.cursorOn) s.cfg.flags.displayOn)]
  | .clearDisplay | .returnHome | .entryModeSet _ _ | .displayControl _ _ _ | .cursorShift _ _ | .functionSet _ _ _
  | .setCgramAddr _ | .setDdramAddr _ => [scriptCommand s.bl (wireByte i)]
  | .dataByte value => [scriptData s.bl value]
  | .expanderByte n _ e r =>
    [[.put (compose (n ++ 0x0#4 : BitVec (4 + 4)) (if r then RS else 0x00) (if e then EN else 0x00) s.bl)]]

/-- An operation of one part is the script played, then the response of R9. -/
theorem State.playParts_singleton (s : State.Over E) (script : List Act) : s.playParts [script] = s.plays script := by
  simp only [State.Over.playParts, State.Over.playPart, State.Over.plays, List.foldl_cons, List.foldl_nil,
    State.setErrs_play, State.setErrs_errs, List.nil_append]
  rfl

theorem endOperation_eq_playParts {r : Result E} {s : State.Over E} {script : List Act} (h : r.played = s.play script) :
    endOperation r = s.playParts [script] := by
  rw [endOperation_eq_played, h, State.playParts_singleton]
  rfl

theorem perform_eq_playParts {body : State.Over E → Result E} {s : State.Over E} {script : List Act}
    (h : (body s).played = s.play script) :
    perform body s = guardConfiguration s (.next (s.playParts [script])) := by
  rw [perform, endOperation_eq_playParts h]

theorem attempt_eq_playPart {body : State.Over E → Result E} {s : State.Over E} {script : List Act}
    (h : (body s).played = s.play script) : attempt body s = s.playPart script := by
  rw [attempt_eq_played body s (by rw [h, State.play_errs]), h]
  rfl

/-! ## STOP (R156) -/

@[simp] theorem State.playPart_cfg (s : State.Over E) (script : List Act) : (s.playPart script).cfg = s.cfg :=
  State.play_cfg script s

/-- A part that writes no register leaves BL and DCTL as they are. -/
theorem State.playPart_keeps {script : List Act} (h : ∀ a ∈ script, (∃ d, a = .put d) ∨ ∃ t, a = .wait t)
    (s : State.Over E) : (s.playPart script).bl = s.bl ∧ (s.playPart script).dctl = s.dctl := by
  obtain ⟨⟨-, -, hdctl, -, hbl⟩, -⟩ := State.play_keeps h s
  exact ⟨hbl, hdctl⟩

theorem State.playPart_setBl (v : Byte) (s : State.Over E) :
    (s.playPart [.setBl v, .put v]).bl = v ∧ (s.playPart [.setBl v, .put v]).dctl = s.dctl :=
  State.playPart_keeps (script := [.put v]) (by simp) (s.setBl v)

theorem State.playPart_scriptDctl (bl v : Byte) (s : State.Over E) :
    (s.playPart (scriptDctl bl v)).bl = s.bl ∧ (s.playPart (scriptDctl bl v)).dctl = v :=
  State.playPart_keeps (playable_send bl _ 0x00) (s.setDctl v)

/-- The third and fourth part start with BL = 0x00, which the second wrote, and the fourth with the DCTL of the third. -/
theorem stopBody_eq_playParts (s : State.Over E) : stopBody s = s.playParts (operationParts .stop s) := by
  have hclear := State.playPart_keeps (script := scriptCommand s.bl 0x01 ++ [Act.wait .tLong])
    (by simp [scriptCommand, scriptSend]) (s.setErrs [])
  simp only [State.setErrs_bl, State.setErrs_dctl] at hclear
  have h₁ : attempt clearBody (s.setErrs []) = (s.setErrs []).playPart (scriptCommand s.bl 0x01 ++ [Act.wait .tLong]) :=
    attempt_eq_playPart (clearBody_follows.plays _)
  have h₂ (t : State.Over E) : attempt backlightOffBody t = t.playPart [.setBl 0x00, .put 0x00] :=
    attempt_eq_playPart (switchBacklight_played _ _)
  have h₃ (t : State.Over E) :
      attempt cursorOffBody t = t.playPart (scriptDctl t.bl (clearFlag t.dctl t.cfg.flags.cursorOn)) :=
    attempt_eq_playPart (emitDisplayControl_played _ _)
  have h₄ (t : State.Over E) :
      attempt displayOffBody t = t.playPart (scriptDctl t.bl (clearFlag t.dctl t.cfg.flags.displayOn)) :=
    attempt_eq_playPart (emitDisplayControl_played _ _)
  simp only [stopBody, h₁, h₂, h₃, h₄, State.playPart_setBl, State.playPart_scriptDctl, State.playPart_cfg,
    State.setErrs_cfg, hclear, State.Over.playParts, operationParts, List.foldl_cons, List.foldl_nil]

/-! ## The whole of `execAt` -/

/-- START plays its one part, in `Uninitialized` only (R154). -/
theorem execStart_eq (s : State.Over E) : execAt .start s = guardConfiguration s
    (if s.phase = .uninitialized then .next (s.playParts (operationParts .start s))
      else .refused (.startNotAdmitted s.phase)) := by
  rw [operationParts, ← endOperation_eq_playParts (startBody_follows.plays s)]
  rfl

/-- Every other instruction plays its parts under an admitted configuration (R22), whatever the state is. -/
theorem execAt_of_ne_start {i : Instr} (h : i ≠ .start) (s : State.Over E) :
    execAt i s = guardConfiguration s (.next (s.playParts (operationParts i s))) := by
  have hcommand (c : Byte) := perform_eq_playParts ((command_follows c).plays s)
  have hdctl (v : Byte) := perform_eq_playParts (emitDisplayControl_played v s)
  have hemode (v : Byte) := perform_eq_playParts (emitEntryMode_played v s)
  cases i with
  | start => exact absurd rfl h
  | stop => rw [← stopBody_eq_playParts]; rfl
  | clear => exact perform_eq_playParts (clearBody_follows.plays s)
  | home => exact perform_eq_playParts (homeBody_follows.plays s)
  | setCursor col row => exact hcommand _
  | scrollLeft => exact hcommand _
  | scrollRight => exact hcommand _
  | displayOn => exact hdctl _
  | displayOff => exact perform_eq_playParts (body := displayOffBody) (emitDisplayControl_played _ s)
  | cursorOn => exact hdctl _
  | cursorOff => exact perform_eq_playParts (body := cursorOffBody) (emitDisplayControl_played _ s)
  | blinkOn => exact hdctl _
  | blinkOff => exact hdctl _
  | leftToRight => exact hemode _
  | rightToLeft => exact hemode _
  | autoscrollOn => exact hemode _
  | autoscrollOff => exact hemode _
  | backlightOn => exact perform_eq_playParts (switchBacklight_played _ s)
  | backlightOff => exact perform_eq_playParts (switchBacklight_played _ s)
  | createChar slot rows => exact perform_eq_playParts ((createCharBody_follows slot rows).plays s)
  | writeChar byte => exact perform_eq_playParts ((data_follows byte).plays s)
  | print text => exact perform_eq_playParts ((dataList_follows text).plays s)
  | clearDisplay => exact hcommand _
  | returnHome => exact hcommand _
  | entryModeSet d n => exact hcommand _
  | displayControl d c b => exact hcommand _
  | cursorShift m r => exact hcommand _
  | functionSet w l f => exact hcommand _
  | setCgramAddr slot => exact hcommand _
  | setDdramAddr address => exact hcommand _
  | dataByte value => exact perform_eq_playParts ((data_follows value).plays s)
  | expanderByte n l e r => exact perform_eq_playParts ((xwrite_follows _ _ _).plays s)

/-- An instruction that answers a next state was admitted and has played its parts. -/
theorem execAt_next {i : Instr} {s t : State.Over E} (h : execAt i s = .next t) :
    s.cfg.wellFormed = true ∧ (i = .start → s.phase = .uninitialized) ∧ t = s.playParts (operationParts i s) := by
  by_cases hi : i = .start
  · subst hi
    rw [execStart_eq] at h
    obtain ⟨hw, ho⟩ := guardConfiguration_next h
    split at ho
    · next hphase => exact ⟨hw, fun _ => hphase, (Host.Outcome.next.inj ho).symm⟩
    · cases ho
  · rw [execAt_of_ne_start hi] at h
    obtain ⟨hw, ho⟩ := guardConfiguration_next h
    exact ⟨hw, fun hs => absurd hs hi, (Host.Outcome.next.inj ho).symm⟩

/-! ## The account of the bus (R7, R51, R63, R232) -/

/-- From `s` to `t` the events `evs` were added, every write of them to ADDR, and each took the transport's next answer. -/
structure Accounted (s : State.Over E) (evs : List (Event E)) (t : State.Over E) : Prop where
  trace : t.trace = s.trace ++ evs
  toAddress : allToAddress s.cfg.addr evs = true
  draws : t.draws = s.draws + (writtenBytes evs).length
  answers : t.answers = s.answers.drop (writtenBytes evs).length
  given : answersGiven evs = (List.range (writtenBytes evs).length).map s.answerAt
  cfg : t.cfg = s.cfg

theorem Accounted.refl (s : State.Over E) : Accounted s [] s :=
  ⟨(List.append_nil _).symm, rfl, rfl, rfl, rfl, rfl⟩

/-- After `evs` the coming answers are the old ones, further on. -/
theorem Accounted.answerAt {s t : State.Over E} {evs : List (Event E)} (h : Accounted s evs t) (k : Nat) :
    t.answerAt k = s.answerAt ((writtenBytes evs).length + k) := by
  simp only [State.Over.answerAt, h.answers, h.draws, List.getElem?_drop, Nat.add_assoc]

theorem Accounted.trans {s t u : State.Over E} {evs evs' : List (Event E)} (h : Accounted s evs t)
    (h' : Accounted t evs' u) : Accounted s (evs ++ evs') u where
  trace := by rw [h'.trace, h.trace, List.append_assoc]
  toAddress := by rw [allToAddress_append, h.toAddress, ← h.cfg, h'.toAddress]; rfl
  draws := by rw [h'.draws, h.draws, writtenBytes_append, List.length_append, Nat.add_assoc]
  answers := by rw [h'.answers, h.answers, writtenBytes_append, List.length_append, List.drop_drop]
  given := by
    rw [answersGiven_append, h.given, h'.given, writtenBytes_append, List.length_append, List.range_add, List.map_append,
      List.map_map]
    exact congrArg _ (List.map_congr_left fun k _ => h.answerAt k)
  cfg := by rw [h'.cfg, h.cfg]

theorem accounted_playPart (script : List Act) (s : State.Over E) : ∃ evs, Accounted s evs (s.playPart script) := by
  obtain ⟨evs, htrace, haddr, hdraws, hanswers, hgiven, -, hcfg, -⟩ := State.play_accounts script s
  exact ⟨evs, htrace, haddr, hdraws, hanswers, hgiven, hcfg⟩

theorem accounted_foldl_playPart (parts : List (List Act)) (s : State.Over E) :
    ∃ evs, Accounted s evs (parts.foldl State.Over.playPart s) := by
  induction parts generalizing s with
  | nil => exact ⟨[], .refl s⟩
  | cons script parts ih =>
    obtain ⟨evs, h⟩ := accounted_playPart script s
    obtain ⟨evs', h'⟩ := ih (s.playPart script)
    exact ⟨evs ++ evs', h.trans h'⟩

theorem accounted_playParts (parts : List (List Act)) (s : State.Over E) :
    ∃ evs, Accounted s evs (s.playParts parts) := by
  obtain ⟨evs, htrace, haddr, hdraws, hanswers, hgiven, hcfg⟩ := accounted_foldl_playPart parts (s.setErrs [])
  exact ⟨evs, htrace, haddr, hdraws, hanswers, hgiven, hcfg⟩

/-- Settles O40: every instruction plays its parts, and each part accounts for its writes. -/
theorem everyWriteIsTracedAndAnswered : Obligations.EveryWriteIsTracedAndAnswered := by
  intro i s t h
  obtain ⟨-, -, rfl⟩ := execAt_next (exec_eq_execAt i s ▸ h)
  obtain ⟨evs, ha⟩ := accounted_playParts (operationParts i s) s
  exact ⟨evs, ha.trace, ha.toAddress, ha.draws, ha.answers, ha.given⟩

/-! ## Renaming the transport's errors (R11, R231) -/

@[simp] theorem putCount_append (xs ys : List Act) : putCount (xs ++ ys) = putCount xs + putCount ys := by
  induction xs with
  | nil => simp [putCount]
  | cons a as ih => cases a <;> simp [putCount, ih, Nat.add_right_comm]

@[simp] theorem putCount_scriptSend (bl v rs : Byte) : putCount (scriptSend bl v rs) = 4 := rfl

theorem putCount_scriptDataList (bl : Byte) (cs : List Byte) : putCount (scriptDataList bl cs) = 4 * cs.length := by
  induction cs with
  | nil => rfl
  | cons c cs ih =>
    rw [scriptDataList, List.flatMap_cons, putCount_append, ← scriptDataList, ih, scriptData, putCount_scriptSend,
      List.length_cons]
    omega

/-- The parts of an instruction have as many writes as R233 counts. -/
theorem putCount_operationParts (i : Instr) (s : State.Over E) :
    ((operationParts i s).map putCount).sum = writeCount i := by
  cases i with
  | print text => simp [operationParts, putCount_scriptDataList, writeCount]
  | createChar slot rows => simp [operationParts, putCount_scriptDataList, writeCount, scriptCommand]
  | start =>
    simp [operationParts, scriptStart, scriptPulse, scriptDctl, scriptEmode, scriptCommand, putCount, writeCount]
  | _ => rfl

theorem State.answers_length_le_play (script : List Act) (s : State.Over E) :
    s.answers.length ≤ putCount script + (s.play script).1.answers.length := by
  induction script generalizing s with
  | nil => simp [State.Over.play]
  | cons a as ih =>
    cases a with
    | put d =>
      cases hn : s.nextAnswer with
      | ok =>
        have h := ih (s.recordWrite d .ok)
        simp only [State.recordWrite_answers, List.length_tail] at h
        simp only [State.Over.play, hn, putCount]
        omega
      | fail e =>
        simp only [State.Over.play, hn, putCount, State.recordWrite_answers, List.length_tail]
        omega
    | wait t => exact ih (s.recordDelay t)
    | setPhase p => exact ih (s.setPhase p)
    | setFunc v => exact ih (s.setFunc v)
    | setDctl v => exact ih (s.setDctl v)
    | setEmode v => exact ih (s.setEmode v)
    | setBl v => exact ih (s.setBl v)

section Renaming

variable {E' : Type} (f : E → E')

theorem State.rename_playPart (script : List Act) (s : State.Over E) (h : putCount script ≤ s.answers.length) :
    (s.rename f).playPart script = (s.playPart script).rename f := by
  cases hp : (s.play script).2 <;> simp [State.Over.playPart, State.rename_play f script s h, hp]

theorem State.rename_foldl_playPart (parts : List (List Act)) (s : State.Over E)
    (h : (parts.map putCount).sum ≤ s.answers.length) :
    parts.foldl State.Over.playPart (s.rename f) = (parts.foldl State.Over.playPart s).rename f := by
  induction parts generalizing s with
  | nil => rfl
  | cons script parts ih =>
    simp only [List.map_cons, List.sum_cons] at h
    have hleft : s.answers.length ≤ putCount script + (s.playPart script).answers.length :=
      State.answers_length_le_play script s
    simp only [List.foldl_cons]
    rw [State.rename_playPart f script s (by omega), ih _ (by omega)]

theorem State.rename_playParts (parts : List (List Act)) (s : State.Over E)
    (h : (parts.map putCount).sum ≤ s.answers.length) :
    (s.rename f).playParts parts = (s.playParts parts).rename f :=
  State.rename_foldl_playPart f parts (s.setErrs []) h

/-- What an instruction sends does not depend on the errors in the state. -/
theorem operationParts_rename (i : Instr) (s : State.Over E) : operationParts i (s.rename f) = operationParts i s := by
  cases i <;> rfl

theorem mapNext_guardConfiguration (g : State.Over E → State.Over E') (s : State.Over E)
    (o : Host.Outcome (State.Over E) Fault Refusal) :
    mapNext g (guardConfiguration s o) =
      if s.cfg.wellFormed then mapNext g o else .refused .illFormedConfiguration := by
  unfold guardConfiguration
  split <;> rfl

theorem execAt_rename (i : Instr) (s : State.Over E) (h : writeCount i ≤ s.answers.length) :
    execAt i (s.rename f) = mapNext (State.Over.rename f) (execAt i s) := by
  have hparts : (s.rename f).playParts (operationParts i (s.rename f)) =
      (s.playParts (operationParts i s)).rename f := by
    rw [operationParts_rename, State.rename_playParts f _ s (by rwa [putCount_operationParts])]
  by_cases hi : i = .start
  · subst hi
    rw [execStart_eq, execStart_eq, hparts, mapNext_guardConfiguration, State.rename_phase]
    split <;> rfl
  · rw [execAt_of_ne_start hi, execAt_of_ne_start hi, hparts, mapNext_guardConfiguration]
    rfl

end Renaming

/-- Settles O52: `exec` and `step` are the generic machine by their arms; an instruction plays parts that do not read the
errors, and renaming commutes with playing them. -/
theorem transportErrorsAreOpaque : Obligations.TransportErrorsAreOpaque :=
  ⟨exec_eq_execAt, step_eq_stepAt, fun _ _ f i s h => execAt_rename f i s h⟩

end Sys2Proof.Machine
end

section
/-! PROOFS. The statements of 10_state.md. Three things are said once and then used: what a script does entry by entry
(`State.play_cons`), so that a property kept by every entry is kept by the script; which entries an instruction may play
(`operationParts_mayPlay`, the table of R30); and how a change of the state that no script reads passes through an
instruction (`execAt_commutes`). -/

namespace Sys2Proof.Machine

variable {E : Type}

/-! ## Construction and refusal (R22, R32, R260; D10) -/

theorem construct_of_wellFormed {c : DisplayConfig} (h : c.wellFormed = true) (backlit : Bool) (lines : Byte) :
    State.Over.construct (E := E) c backlit lines = some (State.Over.initial c backlit lines) := if_pos h

theorem construct_of_illFormed {c : DisplayConfig} (h : c.wellFormed = false) (backlit : Bool) (lines : Byte) :
    State.Over.construct (E := E) c backlit lines = none := if_neg (by simp [h])

/-- Settles O1: construction under a well-formed configuration is `State.Over.initial`. -/
theorem constructionLeavesTheResetState : Obligations.ConstructionLeavesTheResetState :=
  fun _ _ backlit lines h =>
    ⟨_, construct_of_wellFormed h backlit lines, rfl, rfl, rfl, rfl, rfl, rfl, rfl, rfl, rfl, rfl⟩

/-- The base case of the invariants `Legal`, `FunctionSet` and `TraceSound`. -/
theorem initial_sound {c : DisplayConfig} (h : c.wellFormed = true) (backlit : Bool) (lines : Byte) :
    (State.Over.initial (E := E) c backlit lines).Legal ∧ (State.Over.initial (E := E) c backlit lines).FunctionSet ∧
      (State.Over.initial (E := E) c backlit lines).TraceSound := by
  refine ⟨⟨h, BitVec.zero_and, BitVec.zero_and, BitVec.zero_and, ?_⟩, nofun, rfl, nofun, rfl⟩
  cases backlit with
  | false => exact .inl rfl
  | true => exact .inr rfl

/-- Settles O2: a constructed state is an initial one under a well-formed configuration, and so is the reset state. -/
theorem constructedStatesAreLegal : Obligations.ConstructedStatesAreLegal := by
  refine ⟨fun E c backlit lines s h => ?_, initial_sound (by decide) false _⟩
  cases hw : c.wellFormed with
  | true =>
    rw [construct_of_wellFormed hw] at h
    exact Option.some.inj h ▸ initial_sound hw backlit lines
  | false => rw [construct_of_illFormed hw] at h; cases h

theorem wellFormed_eq_false {c : DisplayConfig} (h : c.rows = 0 ∨ 4 < c.rows ∨ (c.dots ≠ 8 ∧ c.dots ≠ 10)) :
    c.wellFormed = false := by
  simp only [DisplayConfig.wellFormed]
  obtain h | h | ⟨h8, h10⟩ := h
  · simp [h]
  · simp [show ¬ c.rows ≤ 4 by omega]
  · simp [h8, h10]

theorem execAt_of_illFormed (i : Instr) {s : State.Over E} (h : s.cfg.wellFormed = false) :
    execAt i s = .refused .illFormedConfiguration := by
  by_cases hi : i = .start
  · subst hi
    rw [execStart_eq, guardConfiguration_of_illFormed h]
  · rw [execAt_of_ne_start hi, guardConfiguration_of_illFormed h]

/-- Settles O3: construction and every instruction check the configuration first. -/
theorem illFormedConfigurationIsRefused : Obligations.IllFormedConfigurationIsRefused := by
  refine fun c hc => ⟨fun E => construct_of_illFormed (wellFormed_eq_false hc), fun i s hs => ?_⟩
  rw [exec_eq_execAt, execAt_of_illFormed i (hs ▸ wellFormed_eq_false hc)]

/-! ## A script entry by entry -/

/-- One entry of a script: a register write, a delay, or a bus write with the transport's next answer. -/
def State.Over.act (s : State.Over E) : Act → State.Over E
  | .put d => s.recordWrite d s.nextAnswer
  | .wait t => s.recordDelay t
  | .setPhase p => s.setPhase p
  | .setFunc v => s.setFunc v
  | .setDctl v => s.setDctl v
  | .setEmode v => s.setEmode v
  | .setBl v => s.setBl v

/-- The error with which an entry ends its script: that of a bus write answered `fail(e)`. -/
def State.Over.failureOf (s : State.Over E) : Act → Option E
  | .put _ =>
    match s.nextAnswer with
    | .ok => none
    | .fail e => some e
  | .wait _ | .setPhase _ | .setFunc _ | .setDctl _ | .setEmode _ | .setBl _ => none

theorem State.play_cons (a : Act) (as : List Act) (s : State.Over E) :
    s.play (a :: as) = (s.failureOf a).elim ((s.act a).play as) (fun e => (s.act a, some e)) := by
  cases a with
  | put d =>
    simp only [State.Over.play, State.Over.failureOf, State.Over.act]
    cases s.nextAnswer <;> rfl
  | _ => rfl

/-- What every entry keeps, the script keeps, wherever it stops. -/
theorem State.play_preserves {P : State.Over E → Prop} {script : List Act}
    (h : ∀ a ∈ script, ∀ u, P u → P (u.act a)) {s : State.Over E} (hs : P s) : P (s.play script).1 := by
  induction script generalizing s with
  | nil => exact hs
  | cons a as ih =>
    have ha : P (s.act a) := h a (List.mem_cons_self ..) s hs
    rw [State.play_cons]
    cases s.failureOf a with
    | none => exact ih (fun b hb => h b (List.mem_cons_of_mem _ hb)) ha
    | some e => exact ha

/-- What every entry of every part keeps, and the response does not touch, an operation keeps. -/
theorem State.playParts_preserves {P : State.Over E → Prop} {parts : List (List Act)}
    (herrs : ∀ u errs, P u → P (u.setErrs errs)) (h : ∀ part ∈ parts, ∀ a ∈ part, ∀ u, P u → P (u.act a))
    {s : State.Over E} (hs : P s) : P (s.playParts parts) := by
  have hfold : ∀ u, P u → P (parts.foldl State.Over.playPart u) := by
    induction parts with
    | nil => exact fun _ hu => hu
    | cons part parts ih =>
      intro u hu
      have hpart : P (u.playPart part) := herrs _ _ (State.play_preserves (h part (List.mem_cons_self ..)) hu)
      exact ih (fun p hp => h p (List.mem_cons_of_mem _ hp)) _ hpart
  exact hfold _ (herrs _ _ hs)

/-! ## What one entry leaves alone -/

@[simp] theorem State.act_cfg (a : Act) (s : State.Over E) : (s.act a).cfg = s.cfg := by cases a <;> rfl

@[simp] theorem State.act_requests (a : Act) (s : State.Over E) : (s.act a).requests = s.requests := by cases a <;> rfl

theorem State.act_phase {a : Act} (h : ∀ p, a ≠ .setPhase p) (s : State.Over E) : (s.act a).phase = s.phase := by
  cases a with
  | setPhase p => exact absurd rfl (h p)
  | _ => rfl

theorem State.act_func {a : Act} (h : ∀ v, a ≠ .setFunc v) (s : State.Over E) : (s.act a).func = s.func := by
  cases a with
  | setFunc v => exact absurd rfl (h v)
  | _ => rfl

theorem State.act_dctl {a : Act} (h : ∀ v, a ≠ .setDctl v) (s : State.Over E) : (s.act a).dctl = s.dctl := by
  cases a with
  | setDctl v => exact absurd rfl (h v)
  | _ => rfl

theorem State.act_emode {a : Act} (h : ∀ v, a ≠ .setEmode v) (s : State.Over E) : (s.act a).emode = s.emode := by
  cases a with
  | setEmode v => exact absurd rfl (h v)
  | _ => rfl

theorem State.act_bl {a : Act} (h : ∀ v, a ≠ .setBl v) (s : State.Over E) : (s.act a).bl = s.bl := by
  cases a with
  | setBl v => exact absurd rfl (h v)
  | _ => rfl

/-! ## Flags within their masks (R22, R92) -/

/-- The masks that R92 gives the flags which a register can hold. -/
structure FlagsWithinMasks (c : DisplayConfig) : Prop where
  displayOn : c.flags.displayOn &&& 0xF8 = 0x00
  cursorOn : c.flags.cursorOn &&& 0xF8 = 0x00
  blinkOn : c.flags.blinkOn &&& 0xF8 = 0x00
  entryLeft : c.flags.entryLeft &&& 0xFC = 0x00
  entryShiftIncrement : c.flags.entryShiftIncrement &&& 0xFC = 0x00
  function : functionFlags c &&& 0xE0 = 0x00

theorem or_and_eq_zero {x y m : Byte} : (x ||| y) &&& m = 0#8 ↔ x &&& m = 0#8 ∧ y &&& m = 0#8 := by
  rw [BitVec.and_or_distrib_right, BitVec.or_eq_zero_iff]

theorem setFlag_and_eq_zero {x flag m : Byte} (hx : x &&& m = 0x00) (hflag : flag &&& m = 0x00) :
    setFlag x flag &&& m = 0x00 := or_and_eq_zero.mpr ⟨hx, hflag⟩

theorem clearFlag_and_eq_zero {x m : Byte} (flag : Byte) (hx : x &&& m = 0x00) : clearFlag x flag &&& m = 0x00 := by
  rw [clearFlag, BitVec.and_assoc, BitVec.and_comm _ m, ← BitVec.and_assoc, hx]
  exact BitVec.zero_and

theorem flagsWithinMasks_of_wellFormed {c : DisplayConfig} (h : c.wellFormed = true) : FlagsWithinMasks c := by
  have hdisplay : ∀ v ∈ [0x01#8, 0x02#8, 0x04#8], v &&& 0xF8 = 0x00 := by decide
  have hentry : ∀ v ∈ [0x01#8, 0x02#8], v &&& 0xFC = 0x00 := by decide
  simp only [DisplayConfig.wellFormed, FlagConstants.wellFormed, Bool.and_eq_true, List.contains_iff_mem, beq_iff_eq,
    or_and_eq_zero] at h
  obtain ⟨-, ⟨⟨⟨⟨⟨⟨⟨⟨⟨hd, hc⟩, hb⟩, -⟩, -⟩, -⟩, hl⟩, hs⟩, -⟩, -⟩, ⟨⟨⟨hmode, hline2⟩, hline1⟩, hdots10⟩, hdots8⟩ := h
  refine ⟨hdisplay _ hd, hdisplay _ hc, hdisplay _ hb, hentry _ hl, hentry _ hs, ?_⟩
  refine or_and_eq_zero.mpr ⟨or_and_eq_zero.mpr ⟨hmode, ?_⟩, ?_⟩
  · split
    · exact hline2
    · exact hline1
  · split
    · exact hdots10
    · exact hdots8

/-! ## Which entries an instruction may play (R30) -/

/-- The instructions that write DCTL. -/
def dctlWriters : List Instr :=
  [.start, .stop, .displayOn, .displayOff, .cursorOn, .cursorOff, .blinkOn, .blinkOff]

/-- The instructions that write EMODE. -/
def emodeWriters : List Instr := [.start, .leftToRight, .rightToLeft, .autoscrollOn, .autoscrollOff]

/-- The instructions that write BL. -/
def blWriters : List Instr := [.stop, .backlightOn, .backlightOff]

/-- The table of R30: which entries instruction `i` may play when it starts in `s`, and that the value of a register write
is legal when `s` is (R25 to R28). -/
def MayPlay (i : Instr) (s : State.Over E) : Act → Prop
  | .put _ | .wait _ => True
  | .setPhase _ => i = .start
  | .setFunc v => i = .start ∧ (s.Legal → v &&& 0xE0 = 0x00)
  | .setDctl v => i ∈ dctlWriters ∧ (s.Legal → v &&& 0xF8 = 0x00)
  | .setEmode v => i ∈ emodeWriters ∧ (s.Legal → v &&& 0xFC = 0x00)
  | .setBl v => i ∈ blWriters ∧ (v = 0x00 ∨ v = 0x08)

section Blocks

variable {i : Instr} {s : State.Over E}

theorem mayPlay_scriptSend (bl v rs : Byte) : ∀ a ∈ scriptSend bl v rs, MayPlay i s a := by
  intro a ha
  obtain ⟨d, rfl⟩ | ⟨t, rfl⟩ := playable_send bl v rs a ha
  · exact trivial
  · exact trivial

theorem mayPlay_scriptDataList (bl : Byte) (cs : List Byte) : ∀ a ∈ scriptDataList bl cs, MayPlay i s a := by
  intro a ha
  obtain ⟨c, -, ha⟩ := List.mem_flatMap.mp ha
  exact mayPlay_scriptSend bl c 0x01 a ha

theorem mayPlay_scriptDctl {v : Byte} (bl : Byte) (h : MayPlay i s (.setDctl v)) :
    ∀ a ∈ scriptDctl bl v, MayPlay i s a :=
  List.forall_mem_cons.mpr ⟨h, mayPlay_scriptSend bl _ 0x00⟩

theorem mayPlay_scriptEmode {v : Byte} (bl : Byte) (h : MayPlay i s (.setEmode v)) :
    ∀ a ∈ scriptEmode bl v, MayPlay i s a :=
  List.forall_mem_cons.mpr ⟨h, mayPlay_scriptSend bl _ 0x00⟩

/-- A command byte and a delay after it. -/
theorem mayPlay_scriptCommand_wait (bl c : Byte) (t : Delay) : ∀ a ∈ scriptCommand bl c ++ [.wait t], MayPlay i s a :=
  List.forall_mem_append.mpr ⟨mayPlay_scriptSend bl c 0x00, List.forall_mem_singleton.mpr trivial⟩

/-- A display flag set in DCTL. -/
theorem mayPlay_setFlag_dctl (flag : Byte) (hi : i ∈ dctlWriters)
    (hflag : FlagsWithinMasks s.cfg → flag &&& 0xF8 = 0x00) :
    ∀ a ∈ scriptDctl s.bl (setFlag s.dctl flag), MayPlay i s a :=
  mayPlay_scriptDctl s.bl
    ⟨hi, fun ⟨hw, _, hd, _⟩ => setFlag_and_eq_zero hd (hflag (flagsWithinMasks_of_wellFormed hw))⟩

/-- A display flag cleared in DCTL. -/
theorem mayPlay_clearFlag_dctl (flag : Byte) (hi : i ∈ dctlWriters) :
    ∀ a ∈ scriptDctl s.bl (clearFlag s.dctl flag), MayPlay i s a :=
  mayPlay_scriptDctl s.bl ⟨hi, fun ⟨_, _, hd, _⟩ => clearFlag_and_eq_zero flag hd⟩

/-- An entry flag set in EMODE. -/
theorem mayPlay_setFlag_emode (flag : Byte) (hi : i ∈ emodeWriters)
    (hflag : FlagsWithinMasks s.cfg → flag &&& 0xFC = 0x00) :
    ∀ a ∈ scriptEmode s.bl (setFlag s.emode flag), MayPlay i s a :=
  mayPlay_scriptEmode s.bl
    ⟨hi, fun ⟨hw, _, _, he, _⟩ => setFlag_and_eq_zero he (hflag (flagsWithinMasks_of_wellFormed hw))⟩

/-- An entry flag cleared in EMODE. -/
theorem mayPlay_clearFlag_emode (flag : Byte) (hi : i ∈ emodeWriters) :
    ∀ a ∈ scriptEmode s.bl (clearFlag s.emode flag), MayPlay i s a :=
  mayPlay_scriptEmode s.bl ⟨hi, fun ⟨_, _, _, he, _⟩ => clearFlag_and_eq_zero flag he⟩

end Blocks

/-- START up to its function-set: steps 1 to 4 (R142 to R145). -/
def startOpening (bl : Byte) : List Act :=
  [Act.setPhase .initializing, Act.wait .tPower, Act.put bl, Act.wait .tIdle]
    ++ scriptPulse bl 0x30 ++ [Act.wait .tInit1] ++ scriptPulse bl 0x30 ++ [Act.wait .tInit2]
    ++ scriptPulse bl 0x30 ++ [Act.wait .tInit3] ++ scriptPulse bl 0x20

/-- START after it has written FUNC: the function-set command, steps 6 to 9 and `Ready` (R146 to R152). -/
def startClosing (c : DisplayConfig) (bl : Byte) : List Act :=
  scriptCommand bl (0x20 ||| functionFlags c) ++ scriptDctl bl c.flags.displayOn
    ++ (scriptCommand bl 0x01 ++ [Act.wait .tLong]) ++ scriptEmode bl c.flags.entryLeft
    ++ (scriptCommand bl 0x02 ++ [Act.wait .tLong]) ++ [Act.setPhase .ready]

theorem scriptStart_eq (c : DisplayConfig) (bl : Byte) :
    scriptStart c bl = startOpening bl ++ Act.setFunc (functionFlags c) :: startClosing c bl := by
  simp [scriptStart, startOpening, startClosing, functionFlags]

theorem mayPlay_scriptStart (s : State.Over E) : ∀ a ∈ scriptStart s.cfg s.bl, MayPlay .start s a := by
  have hfunc : MayPlay .start s (.setFunc (functionFlags s.cfg)) :=
    ⟨rfl, fun ⟨hw, _⟩ => (flagsWithinMasks_of_wellFormed hw).function⟩
  have hdctl : MayPlay .start s (.setDctl s.cfg.flags.displayOn) :=
    ⟨by decide, fun ⟨hw, _⟩ => (flagsWithinMasks_of_wellFormed hw).displayOn⟩
  have hemode : MayPlay .start s (.setEmode s.cfg.flags.entryLeft) :=
    ⟨by decide, fun ⟨hw, _⟩ => (flagsWithinMasks_of_wellFormed hw).entryLeft⟩
  have hcommand (c : Byte) : ∀ a ∈ scriptCommand s.bl c, MayPlay .start s a := mayPlay_scriptSend s.bl c 0x00
  have hopening : ∀ a ∈ startOpening s.bl, MayPlay .start s a := by
    simp [startOpening, scriptPulse, MayPlay]
  have hclosing : ∀ a ∈ startClosing s.cfg s.bl, MayPlay .start s a := by
    simp only [startClosing, List.forall_mem_append, List.forall_mem_singleton]
    exact ⟨⟨⟨⟨⟨hcommand _, mayPlay_scriptDctl s.bl hdctl⟩, hcommand _, trivial⟩, mayPlay_scriptEmode s.bl hemode⟩,
      hcommand _, trivial⟩, rfl⟩
  rw [scriptStart_eq]
  exact List.forall_mem_append.mpr ⟨hopening, List.forall_mem_cons.mpr ⟨hfunc, hclosing⟩⟩

/-- The parts of STOP (R156): DCTL is written twice, without the cursor flag and then without the display flag as well. -/
theorem mayPlay_stop (s : State.Over E) : ∀ part ∈ operationParts .stop s, ∀ a ∈ part, MayPlay .stop s a := by
  have hbacklight : MayPlay .stop s (.setBl 0x00) := ⟨by decide, .inl rfl⟩
  have hcursor : MayPlay .stop s (.setDctl (clearFlag s.dctl s.cfg.flags.cursorOn)) :=
    ⟨by decide, fun ⟨_, _, hd, _⟩ => clearFlag_and_eq_zero _ hd⟩
  have hdisplay : MayPlay .stop s
      (.setDctl (clearFlag (clearFlag s.dctl s.cfg.flags.cursorOn) s.cfg.flags.displayOn)) :=
    ⟨by decide, fun ⟨_, _, hd, _⟩ => clearFlag_and_eq_zero _ (clearFlag_and_eq_zero _ hd)⟩
  simp only [operationParts, List.forall_mem_cons]
  exact ⟨mayPlay_scriptCommand_wait s.bl _ _, ⟨hbacklight, trivial, nofun⟩, mayPlay_scriptDctl 0x00 hcursor,
    mayPlay_scriptDctl 0x00 hdisplay, nofun⟩

/-- R30: the parts of an instruction hold the entries of its row of the table. -/
theorem operationParts_mayPlay (i : Instr) (s : State.Over E) :
    ∀ part ∈ operationParts i s, ∀ a ∈ part, MayPlay i s a := by
  have hone {script : List Act} (h : ∀ a ∈ script, MayPlay i s a) : ∀ part ∈ [script], ∀ a ∈ part, MayPlay i s a :=
    List.forall_mem_singleton.mpr h
  cases i with
  | stop => exact mayPlay_stop s
  | start => exact hone (mayPlay_scriptStart s)
  | clear => exact hone (mayPlay_scriptCommand_wait s.bl _ _)
  | home => exact hone (mayPlay_scriptCommand_wait s.bl _ _)
  | displayOn => exact hone (mayPlay_setFlag_dctl _ (by decide) (·.displayOn))
  | cursorOn => exact hone (mayPlay_setFlag_dctl _ (by decide) (·.cursorOn))
  | blinkOn => exact hone (mayPlay_setFlag_dctl _ (by decide) (·.blinkOn))
  | displayOff => exact hone (mayPlay_clearFlag_dctl _ (by decide))
  | cursorOff => exact hone (mayPlay_clearFlag_dctl _ (by decide))
  | blinkOff => exact hone (mayPlay_clearFlag_dctl _ (by decide))
  | leftToRight => exact hone (mayPlay_setFlag_emode _ (by decide) (·.entryLeft))
  | autoscrollOn => exact hone (mayPlay_setFlag_emode _ (by decide) (·.entryShiftIncrement))
  | rightToLeft => exact hone (mayPlay_clearFlag_emode _ (by decide))
  | autoscrollOff => exact hone (mayPlay_clearFlag_emode _ (by decide))
  | backlightOn => simp [operationParts, MayPlay, blWriters]
  | backlightOff => simp [operationParts, MayPlay, blWriters]
  | writeChar byte => exact hone (mayPlay_scriptSend s.bl byte 0x01)
  | dataByte value => exact hone (mayPlay_scriptSend s.bl value 0x01)
  | print text => exact hone (mayPlay_scriptDataList s.bl text)
  | createChar slot rows =>
    exact hone (List.forall_mem_append.mpr ⟨mayPlay_scriptSend s.bl _ 0x00, mayPlay_scriptDataList s.bl rows⟩)
  | expanderByte n l e r => simp [operationParts, MayPlay]
  | _ => exact hone (mayPlay_scriptSend s.bl _ 0x00)

/-! ## Invariants of an instruction and of a step -/

/-- What the response does not touch and every entry of the instruction's row keeps, the instruction keeps. -/
theorem execAt_preserves {P : State.Over E → Prop} {i : Instr} {s t : State.Over E}
    (herrs : ∀ u errs, P u → P (u.setErrs errs)) (hact : ∀ a, MayPlay i s a → ∀ u, P u → P (u.act a))
    (h : execAt i s = .next t) (hs : P s) : P t := by
  obtain ⟨-, -, rfl⟩ := execAt_next h
  exact State.playParts_preserves herrs (fun part hpart a ha => hact a (operationParts_mayPlay i s part hpart a ha)) hs

/-- What a step that answers a next state has done: nothing, with nothing presented; or the instruction presented first. -/
theorem step_next {s t : State} (h : step s = .next t) :
    s.requests = [] ∧ t = s ∨
      ∃ r rest i, s.requests = r :: rest ∧ decode r = .ok i ∧ execAt i (s.setRequests rest) = .next t := by
  cases hr : s.requests with
  | nil => exact .inl ⟨rfl, by rw [step_of_requests_nil hr] at h; exact (Host.Outcome.next.inj h).symm⟩
  | cons r rest =>
    cases hd : decode r with
    | ok i => exact .inr ⟨r, rest, i, rfl, hd, by rw [← exec_eq_execAt, ← step_of_decode hr hd, h]⟩
    | error why => simp [step, hr, hd] at h

/-- What every instruction keeps, whatever is presented, every step keeps. -/
theorem step_preserves {P : State → Prop} (hrequests : ∀ u rs, P u → P (u.setRequests rs))
    (hexec : ∀ i u v, P u → execAt i u = .next v → P v) {s t : State} (hs : P s) (h : step s = .next t) : P t := by
  obtain ⟨-, rfl⟩ | ⟨r, rest, i, -, -, hi⟩ := step_next h
  · exact hs
  · exact hexec i _ t (hrequests s rest hs) hi

/-! ## The registers stay legal (R25 to R28) -/

theorem State.Legal.act {i : Instr} {s u : State.Over E} {a : Act} (hs : s.Legal) (ha : MayPlay i s a) (hu : u.Legal) :
    (u.act a).Legal := by
  obtain ⟨hw, hf, hd, he, hb⟩ := hu
  cases a with
  | setFunc v => exact ⟨hw, ha.2 hs, hd, he, hb⟩
  | setDctl v => exact ⟨hw, hf, ha.2 hs, he, hb⟩
  | setEmode v => exact ⟨hw, hf, hd, ha.2 hs, hb⟩
  | setBl v => exact ⟨hw, hf, hd, he, ha.2⟩
  | _ => exact ⟨hw, hf, hd, he, hb⟩

theorem execAt_legal {i : Instr} {s t : State.Over E} (hs : s.Legal) (h : execAt i s = .next t) : t.Legal :=
  execAt_preserves (fun _ _ hu => hu) (fun _ ha _ hu => State.Legal.act hs ha hu) h hs

/-- Settles O36: each register write of the table (`MayPlay`) has a legal value. -/
theorem everyStepKeepsLegalRegisters : Obligations.EveryStepKeepsLegalRegisters :=
  fun _ _ => step_preserves (fun _ _ hu => hu) (fun _ _ _ => execAt_legal)

/-! ## Who writes which register (R20, R24, R30) -/

section Frames

variable {i : Instr} {s t : State.Over E}

/-- A field that the response does not touch and no entry of the instruction's row writes stays as it is. -/
theorem execAt_keeps {α : Type} (field : State.Over E → α) (herrs : ∀ u errs, field (u.setErrs errs) = field u)
    (hact : ∀ a, MayPlay i s a → ∀ u, field (u.act a) = field u) (h : execAt i s = .next t) : field t = field s :=
  execAt_preserves (P := fun u => field u = field s) (fun u errs hu => (herrs u errs).trans hu)
    (fun a ha u hu => (hact a ha u).trans hu) h rfl

theorem execAt_cfg (h : execAt i s = .next t) : t.cfg = s.cfg :=
  execAt_keeps (·.cfg) (fun _ _ => rfl) (fun a _ => State.act_cfg a) h

theorem execAt_requests (h : execAt i s = .next t) : t.requests = s.requests :=
  execAt_keeps (·.requests) (fun _ _ => rfl) (fun a _ => State.act_requests a) h

theorem execAt_phase (hi : i ≠ .start) (h : execAt i s = .next t) : t.phase = s.phase :=
  execAt_keeps (·.phase) (fun _ _ => rfl) (fun _ ha => State.act_phase (by rintro _ rfl; exact hi ha)) h

theorem execAt_func (hi : i ≠ .start) (h : execAt i s = .next t) : t.func = s.func :=
  execAt_keeps (·.func) (fun _ _ => rfl) (fun _ ha => State.act_func (by rintro _ rfl; exact hi ha.1)) h

theorem execAt_dctl (hi : i ∉ dctlWriters) (h : execAt i s = .next t) : t.dctl = s.dctl :=
  execAt_keeps (·.dctl) (fun _ _ => rfl) (fun _ ha => State.act_dctl (by rintro _ rfl; exact hi ha.1)) h

theorem execAt_emode (hi : i ∉ emodeWriters) (h : execAt i s = .next t) : t.emode = s.emode :=
  execAt_keeps (·.emode) (fun _ _ => rfl) (fun _ ha => State.act_emode (by rintro _ rfl; exact hi ha.1)) h

theorem execAt_bl (hi : i ∉ blWriters) (h : execAt i s = .next t) : t.bl = s.bl :=
  execAt_keeps (·.bl) (fun _ _ => rfl) (fun _ ha => State.act_bl (by rintro _ rfl; exact hi ha.1)) h

end Frames

/-- Settles O39: an instruction outside a register's row of the table plays no write of it. -/
theorem registersAreWrittenOnlyAsTabled : Obligations.RegistersAreWrittenOnlyAsTabled := by
  intro i s t h
  rw [exec_eq_execAt] at h
  exact ⟨execAt_cfg h, execAt_requests h, fun hi => ⟨execAt_phase hi h, execAt_func hi h⟩, fun hi => execAt_dctl hi h,
    fun hi => execAt_emode hi h, fun hi => execAt_bl hi h⟩

/-! ## `Ready` means that FUNC is set (R25, R146, R152) -/

theorem eq_initializing_of_mem_startOpening {bl : Byte} {p : Phase} (h : .setPhase p ∈ startOpening bl) :
    p = .initializing := by
  simpa [startOpening, scriptPulse] using h

theorem not_setFunc_startClosing (c : DisplayConfig) (bl v : Byte) : .setFunc v ∉ startClosing c bl := by
  simp [startClosing, scriptDctl, scriptEmode, scriptCommand, scriptSend]

theorem State.setErrs_functionSet (s : State.Over E) (errs : List E) : (s.setErrs errs).FunctionSet ↔ s.FunctionSet :=
  Iff.rfl

/-- START that fails before its function-set is not `Ready`; after it FUNC is set for good. -/
theorem State.play_scriptStart_functionSet {s : State.Over E} (h : s.phase ≠ .ready) :
    (s.play (scriptStart s.cfg s.bl)).1.FunctionSet := by
  have hopening : (s.play (startOpening s.bl)).1.phase ≠ .ready := by
    refine State.play_preserves (P := fun u => u.phase ≠ .ready) (fun a ha u hu => ?_) h
    cases a with
    | setPhase p => simp [State.Over.act, eq_initializing_of_mem_startOpening ha]
    | _ => exact hu
  rw [scriptStart_eq, State.play_append]
  cases (s.play (startOpening s.bl)).2 with
  | some e => exact fun hready => absurd hready hopening
  | none =>
    intro _
    rw [State.play_cfg, State.play_cfg]
    refine State.play_preserves (P := fun u => u.func = functionFlags s.cfg) (script := startClosing s.cfg s.bl)
      (fun a ha u hu => ?_) (State.setFunc_func _ _)
    exact (State.act_func (fun v heq => not_setFunc_startClosing s.cfg s.bl v (heq ▸ ha)) u).trans hu

theorem execAt_functionSet {i : Instr} {s t : State.Over E} (hs : s.FunctionSet) (h : execAt i s = .next t) :
    t.FunctionSet := by
  by_cases hi : i = .start
  · subst hi
    obtain ⟨-, hphase, rfl⟩ := execAt_next h
    rw [operationParts, State.playParts_singleton, State.Over.plays, State.setErrs_functionSet]
    exact State.play_scriptStart_functionSet (by simp [hphase rfl])
  · intro hready
    rw [execAt_phase hi h] at hready
    rw [execAt_func hi h, execAt_cfg h, hs hready]

/-- Settles O37: no instruction but START writes PHASE or FUNC, and START is not `Ready` before it has set FUNC. -/
theorem readyMeansFunctionSetHolds : Obligations.ReadyMeansFunctionSetHolds :=
  fun _ _ => step_preserves (fun _ _ hu => hu) (fun _ _ _ => execAt_functionSet)

/-! ## A change of the state that no script reads -/

/-- `g` changes only what neither the check of the configuration nor the course of a script depends on. -/
structure Unread (g : State.Over E → State.Over E) : Prop where
  wellFormed : ∀ s, (g s).cfg.wellFormed = s.cfg.wellFormed
  nextAnswer : ∀ s, (g s).nextAnswer = s.nextAnswer
  errs : ∀ s, (g s).errs = s.errs
  setErrs : ∀ s errs, (g s).setErrs errs = g (s.setErrs errs)

section Commutes

variable {g : State.Over E → State.Over E}

theorem Unread.failureOf (hg : Unread g) (s : State.Over E) (a : Act) : (g s).failureOf a = s.failureOf a := by
  cases a with
  | put d => simp only [State.Over.failureOf, hg.nextAnswer]
  | _ => rfl

theorem State.play_commutes (hg : Unread g) {script : List Act} (h : ∀ a ∈ script, ∀ u, (g u).act a = g (u.act a))
    (s : State.Over E) : (g s).play script = (g (s.play script).1, (s.play script).2) := by
  induction script generalizing s with
  | nil => rfl
  | cons a as ih =>
    rw [State.play_cons, State.play_cons, hg.failureOf, h a (List.mem_cons_self ..)]
    cases s.failureOf a with
    | none => exact ih (fun b hb => h b (List.mem_cons_of_mem _ hb)) (s.act a)
    | some e => rfl

theorem State.playParts_commutes (hg : Unread g) {parts : List (List Act)}
    (h : ∀ part ∈ parts, ∀ a ∈ part, ∀ u, (g u).act a = g (u.act a)) (s : State.Over E) :
    (g s).playParts parts = g (s.playParts parts) := by
  have hfold : ∀ u, parts.foldl State.Over.playPart (g u) = g (parts.foldl State.Over.playPart u) := by
    induction parts with
    | nil => exact fun _ => rfl
    | cons part parts ih =>
      intro u
      have hpart : (g u).playPart part = g (u.playPart part) := by
        simp only [State.Over.playPart, State.play_commutes hg (h part (List.mem_cons_self ..)), hg.errs, hg.setErrs]
      rw [List.foldl_cons, hpart]
      exact ih (fun p hp => h p (List.mem_cons_of_mem _ hp)) _
  rw [State.Over.playParts, hg.setErrs]
  exact hfold _

/-- Such a change passes through an instruction whose parts do not depend on it and whose entries commute with it. -/
theorem execAt_commutes (hg : Unread g) {i : Instr} {s : State.Over E}
    (hparts : operationParts i (g s) = operationParts i s)
    (hact : ∀ a, MayPlay i s a → ∀ u, (g u).act a = g (u.act a)) (hphase : i = .start → (g s).phase = s.phase) :
    execAt i (g s) = mapNext g (execAt i s) := by
  have hplay : (g s).playParts (operationParts i (g s)) = g (s.playParts (operationParts i s)) := by
    rw [hparts]
    exact State.playParts_commutes hg (fun part hp a ha => hact a (operationParts_mayPlay i s part hp a ha)) s
  by_cases hi : i = .start
  · subst hi
    rw [execStart_eq, execStart_eq, hplay, mapNext_guardConfiguration, guardConfiguration, hg.wellFormed, hphase rfl,
      apply_ite (mapNext g)]
    rfl
  · rw [execAt_of_ne_start hi, execAt_of_ne_start hi, hplay, mapNext_guardConfiguration, guardConfiguration, hg.wellFormed]
    rfl

end Commutes

/-! ## START alone moves PHASE (R24, R141, R152, R154) -/

/-- The entries that write no PHASE do not see one written before them. -/
theorem State.setPhase_act {a : Act} (h : ∀ p, a ≠ .setPhase p) (p : Phase) (s : State.Over E) :
    (s.setPhase p).act a = (s.act a).setPhase p := by
  cases a with
  | setPhase q => exact absurd rfl (h q)
  | _ => rfl

theorem operationParts_setPhase (i : Instr) (s : State.Over E) (p : Phase) :
    operationParts i (s.setPhase p) = operationParts i s := by
  cases i <;> rfl

theorem unread_setPhase (p : Phase) : Unread (E := E) (·.setPhase p) where
  wellFormed _ := rfl
  nextAnswer _ := rfl
  errs _ := rfl
  setErrs _ _ := rfl

theorem execAt_setPhase {i : Instr} (hi : i ≠ .start) (s : State.Over E) (p : Phase) :
    execAt i (s.setPhase p) = mapNext (·.setPhase p) (execAt i s) :=
  execAt_commutes (unread_setPhase p) (operationParts_setPhase i s p)
    (fun _ ha => State.setPhase_act (by rintro _ rfl; exact hi ha) p) (fun hstart => absurd hstart hi)

/-- Settles O38: no other instruction writes PHASE or reads it; START has started in `Uninitialized`, and any other phase
is later. -/
theorem phaseMovesForwardByStartOnly : Obligations.PhaseMovesForwardByStartOnly := by
  refine ⟨fun i s t h => ?_, fun i s p hi => ?_⟩
  · rw [exec_eq_execAt] at h
    by_cases hi : i = .start
    · obtain ⟨-, hphase, -⟩ := execAt_next h
      cases ht : t.phase with
      | uninitialized => exact .inl (hphase hi).symm
      | initializing => exact .inr ⟨hi, hphase hi, .inl rfl⟩
      | ready => exact .inr ⟨hi, hphase hi, .inr rfl⟩
    · exact .inl (execAt_phase hi h)
  · rw [exec_eq_execAt, exec_eq_execAt, execAt_setPhase hi]

/-! ## The column count (R21) -/

theorem State.withCols_act (n : Nat) (a : Act) (s : State.Over E) : (s.withCols n).act a = (s.act a).withCols n := by
  cases a <;> rfl

theorem operationParts_withCols (i : Instr) (s : State.Over E) (n : Nat) :
    operationParts i (s.withCols n) = operationParts i s := by
  cases i <;> rfl

theorem unread_withCols (n : Nat) : Unread (E := E) (·.withCols n) where
  wellFormed _ := rfl
  nextAnswer _ := rfl
  errs _ := rfl
  setErrs _ _ := rfl

/-- Settles O47: no part is chosen by the column count and no entry reads it. -/
theorem columnCountIsNeverRead : Obligations.ColumnCountIsNeverRead := by
  intro i s n
  rw [exec_eq_execAt, exec_eq_execAt]
  exact execAt_commutes (unread_withCols n) (operationParts_withCols i s n) (fun a _ => State.withCols_act n a)
    (fun _ => rfl)

/-! ## The expander's lines (R37, R68; D14) -/

/-- The byte an entry writes to the bus. -/
def Act.byte? : Act → Option Byte
  | .put d => some d
  | .wait _ | .setPhase _ | .setFunc _ | .setDctl _ | .setEmode _ | .setBl _ => none

/-- The bytes a script writes to the bus when every write succeeds. -/
def putBytes (script : List Act) : List Byte := script.filterMap Act.byte?

/-- A script that runs to its end writes its bytes and leaves the last of them on the lines; one that fails has written a
last byte, and leaves that or what was there before it. -/
theorem State.play_lines (script : List Act) (s : State.Over E) :
    ∃ evs, (s.play script).1.trace = s.trace ++ evs ∧
      ((s.play script).2 = none ∧ writtenBytes evs = putBytes script ∧
          (s.play script).1.lines = (putBytes script).getLastD s.lines ∨
        (s.play script).2 ≠ none ∧ ∃ before d, writtenBytes evs = before ++ [d] ∧
          ((s.play script).1.lines = d ∨ (s.play script).1.lines = before.getLastD s.lines)) := by
  induction script generalizing s with
  | nil => exact ⟨[], by simp [State.Over.play, putBytes, writtenBytes]⟩
  | cons a as ih =>
    cases a with
    | put d =>
      cases hn : s.nextAnswer with
      | ok =>
        obtain ⟨evs, htrace, h⟩ := ih (s.recordWrite d .ok)
        refine ⟨.write s.cfg.addr d .ok :: evs, ?_, ?_⟩
        · simpa [State.Over.play, hn] using htrace
        · simp only [State.Over.play, hn]
          obtain ⟨hdone, hbytes, hlines⟩ | ⟨hfail, before, d', hbytes, hlines⟩ := h
          · exact .inl ⟨hdone, congrArg (d :: ·) hbytes, hlines.trans List.getLastD_cons.symm⟩
          · exact .inr ⟨hfail, d :: before, d', congrArg (d :: ·) hbytes,
              hlines.imp id (·.trans List.getLastD_cons.symm)⟩
      | fail e =>
        refine ⟨[.write s.cfg.addr d (.fail e)], ?_, .inr ⟨?_, [], d, rfl, ?_⟩⟩
        · simp [State.Over.play, hn]
        · simp [State.Over.play, hn]
        · simp only [State.Over.play, hn, State.recordWrite_lines, State.Over.linesAfter]
          split
          · exact .inl rfl
          · exact .inr rfl
    | wait t =>
      obtain ⟨evs, htrace, h⟩ := ih (s.recordDelay t)
      exact ⟨.delay t :: evs, by simpa [State.Over.play] using htrace, h⟩
    | setPhase p => exact ih (s.setPhase p)
    | setFunc v => exact ih (s.setFunc v)
    | setDctl v => exact ih (s.setDctl v)
    | setEmode v => exact ih (s.setEmode v)
    | setBl v => exact ih (s.setBl v)

theorem State.foldl_playPart_of_errs_nil (parts : List (List Act)) (s : State.Over E)
    (h : (parts.foldl State.Over.playPart s).errs = []) :
    s.play parts.flatten = (parts.foldl State.Over.playPart s, none) := by
  induction parts generalizing s with
  | nil => rfl
  | cons part parts ih =>
    have hrest := ih (s.playPart part) h
    have herrs : s.errs ++ (s.play part).2.toList = [] := by
      have hkept := State.play_errs parts.flatten (s.playPart part)
      rw [hrest] at hkept
      exact hkept.symm.trans h
    obtain ⟨hs, hpart⟩ := List.append_eq_nil_iff.mp herrs
    have hsame : s.playPart part = (s.play part).1 := by
      rw [State.Over.playPart, herrs, ← hs, ← State.play_errs part s]
      rfl
    rw [List.flatten_cons, State.play_append, Option.toList_eq_nil_iff.mp hpart, List.foldl_cons, ← hrest, hsame]

/-- An operation that returns no error has played its parts one after the other, as one script, to its end. -/
theorem State.play_flatten_of_errs_nil {parts : List (List Act)} {s : State.Over E} (h : (s.playParts parts).errs = []) :
    (s.setErrs []).play parts.flatten = (s.playParts parts, none) :=
  State.foldl_playPart_of_errs_nil parts (s.setErrs []) h

/-! ### The enable line after an operation -/

/-- The last byte the script writes, if any, has the enable bit low. -/
def EndsLow (script : List Act) : Prop := ∀ d ∈ (putBytes script).getLast?, d &&& 0x04 = 0x00

theorem EndsLow.getLastD {script : List Act} (h : EndsLow script) {d : Byte} (hd : d &&& 0x04 = 0x00) :
    (putBytes script).getLastD d &&& 0x04 = 0x00 := by
  rw [List.getLastD_eq_getLast?]
  cases hl : (putBytes script).getLast? with
  | none => exact hd
  | some l => exact h l hl

theorem EndsLow.append {xs ys : List Act} (hx : EndsLow xs) (hy : EndsLow ys) : EndsLow (xs ++ ys) := by
  intro d hd
  rw [putBytes, List.filterMap_append, List.getLast?_append, Option.mem_def, Option.or_eq_some_iff] at hd
  obtain hd | ⟨-, hd⟩ := hd
  · exact hy d hd
  · exact hx d hd

theorem endsLow_flatten {parts : List (List Act)} (h : ∀ part ∈ parts, EndsLow part) : EndsLow parts.flatten := by
  induction parts with
  | nil => exact nofun
  | cons part parts ih => exact (h part (List.mem_cons_self ..)).append (ih fun p hp => h p (List.mem_cons_of_mem _ hp))

section Blocks

variable {bl : Byte}

theorem endsLow_scriptSend (hbl : bl &&& 0x04 = 0x00) (v : Byte) {rs : Byte} (hrs : rs &&& 0x04 = 0x00) :
    EndsLow (scriptSend bl v rs) := by
  intro d hd
  obtain rfl : ((v <<< 4) &&& 0xF0) ||| rs ||| bl = d := Option.some.inj hd
  exact or_and_eq_zero.mpr ⟨or_and_eq_zero.mpr ⟨by rw [BitVec.and_assoc]; exact BitVec.and_zero, hrs⟩, hbl⟩

theorem endsLow_scriptCommand (hbl : bl &&& 0x04 = 0x00) (c : Byte) : EndsLow (scriptCommand bl c) :=
  endsLow_scriptSend hbl c (by decide)

theorem endsLow_scriptData (hbl : bl &&& 0x04 = 0x00) (c : Byte) : EndsLow (scriptData bl c) :=
  endsLow_scriptSend hbl c (by decide)

theorem endsLow_scriptDataList (hbl : bl &&& 0x04 = 0x00) (cs : List Byte) : EndsLow (scriptDataList bl cs) := by
  induction cs with
  | nil => exact nofun
  | cons c cs ih => exact (endsLow_scriptData hbl c).append ih

/-- A command byte and a delay after it. -/
theorem endsLow_scriptCommand_wait (hbl : bl &&& 0x04 = 0x00) (c : Byte) (t : Delay) :
    EndsLow (scriptCommand bl c ++ [.wait t]) :=
  (endsLow_scriptCommand hbl c).append nofun

theorem endsLow_scriptDctl (hbl : bl &&& 0x04 = 0x00) (v : Byte) : EndsLow (scriptDctl bl v) :=
  endsLow_scriptCommand hbl (0x08 ||| v)

theorem endsLow_scriptEmode (hbl : bl &&& 0x04 = 0x00) (v : Byte) : EndsLow (scriptEmode bl v) :=
  endsLow_scriptCommand hbl (0x04 ||| v)

theorem endsLow_startOpening (hbl : bl &&& 0x04 = 0x00) : EndsLow (startOpening bl) := by
  intro d hd
  obtain rfl : 0x20 ||| bl = d := Option.some.inj hd
  exact or_and_eq_zero.mpr ⟨by decide, hbl⟩

theorem endsLow_startClosing (hbl : bl &&& 0x04 = 0x00) (c : DisplayConfig) : EndsLow (startClosing c bl) := by
  rw [startClosing]
  exact (((((endsLow_scriptCommand hbl _).append (endsLow_scriptDctl hbl _)).append
    (endsLow_scriptCommand_wait hbl _ _)).append (endsLow_scriptEmode hbl _)).append
    (endsLow_scriptCommand_wait hbl _ _)).append nofun

theorem endsLow_scriptStart (hbl : bl &&& 0x04 = 0x00) (c : DisplayConfig) : EndsLow (scriptStart c bl) := by
  rw [scriptStart_eq]
  exact (endsLow_startOpening hbl).append (endsLow_startClosing hbl c)

end Blocks

theorem endsLow_operationParts {i : Instr} {s : State.Over E} (hi : i.isOperation = true) (hs : s.Legal) :
    ∀ part ∈ operationParts i s, EndsLow part := by
  have hbl : s.bl &&& 0x04 = 0x00 := by
    obtain ⟨-, -, -, -, hb | hb⟩ := hs <;> rw [hb] <;> decide
  have hbacklight (v : Byte) (hv : v &&& 0x04 = 0x00) : EndsLow [.setBl v, .put v] := by
    intro d hd
    obtain rfl : v = d := Option.some.inj hd
    exact hv
  have hone {script : List Act} (h : EndsLow script) : ∀ part ∈ [script], EndsLow part :=
    List.forall_mem_singleton.mpr h
  cases i with
  | expanderByte n l e r => cases hi
  | stop =>
    simp only [operationParts, List.forall_mem_cons]
    exact ⟨endsLow_scriptCommand_wait hbl _ _, hbacklight _ (by decide), endsLow_scriptCommand (by decide) _,
      endsLow_scriptCommand (by decide) _, nofun⟩
  | start => exact hone (endsLow_scriptStart hbl s.cfg)
  | clear => exact hone (endsLow_scriptCommand_wait hbl _ _)
  | home => exact hone (endsLow_scriptCommand_wait hbl _ _)
  | backlightOn => exact hone (hbacklight _ (by decide))
  | backlightOff => exact hone (hbacklight _ (by decide))
  | writeChar byte => exact hone (endsLow_scriptData hbl byte)
  | dataByte value => exact hone (endsLow_scriptData hbl value)
  | print text => exact hone (endsLow_scriptDataList hbl text)
  | createChar slot rows =>
    exact hone ((endsLow_scriptCommand hbl _).append (endsLow_scriptDataList hbl rows))
  | _ => exact hone (endsLow_scriptCommand hbl _)

theorem operationParts_eq_singleton {i : Instr} (hi : i ≠ .stop) (s : State.Over E) :
    ∃ script, operationParts i s = [script] := by
  cases i with
  | stop => exact absurd rfl hi
  | _ => exact ⟨_, rfl⟩

/-- An operation without error is one script played to its end, which leaves its last byte on the lines. -/
theorem execAt_lines_of_errs_nil {i : Instr} {s t : State.Over E} (h : execAt i s = .next t) (ht : t.errs = []) :
    ∃ evs, t.trace = s.trace ++ evs ∧ writtenBytes evs = putBytes (operationParts i s).flatten ∧
      t.lines = (writtenBytes evs).getLastD s.lines := by
  obtain ⟨-, -, rfl⟩ := execAt_next h
  have hplay := State.play_flatten_of_errs_nil ht
  obtain ⟨evs, htrace, hlines⟩ := State.play_lines (operationParts i s).flatten (s.setErrs [])
  rw [hplay] at htrace hlines
  obtain ⟨-, hbytes, hlines⟩ | ⟨hfail, -⟩ := hlines
  · exact ⟨evs, htrace, hbytes, hbytes ▸ hlines⟩
  · exact absurd rfl hfail

/-- An instruction of one part, whatever is answered. -/
theorem execAt_lines_of_ne_stop {i : Instr} {s t : State.Over E} (hi : i ≠ .stop) (h : execAt i s = .next t) :
    ∃ evs, t.trace = s.trace ++ evs ∧ (t.lines = (writtenBytes evs).getLastD s.lines ∨
      t.errs ≠ [] ∧ t.lines = (writtenBytes evs).dropLast.getLastD s.lines) := by
  obtain ⟨-, -, rfl⟩ := execAt_next h
  obtain ⟨script, hscript⟩ := operationParts_eq_singleton hi s
  rw [hscript, State.playParts_singleton]
  obtain ⟨evs, htrace, ⟨-, hbytes, hlines⟩ | ⟨hfail, before, d, hbytes, hlines⟩⟩ := State.play_lines script s
  · exact ⟨evs, htrace, .inl (hbytes ▸ hlines)⟩
  · refine ⟨evs, htrace, ?_⟩
    rw [hbytes, List.getLastD_concat, List.dropLast_concat]
    exact hlines.imp id fun hold => ⟨mt Option.toList_eq_nil_iff.mp hfail, hold⟩

/-- Settles O50: the lines follow the one script that an instruction plays, and an operation's script ends with enable
low. -/
theorem linesHoldTheLastByte : Obligations.LinesHoldTheLastByte := by
  refine ⟨fun i s t hi hs h ht => ?_, fun i s t hi h => execAt_lines_of_ne_stop hi (exec_eq_execAt i s ▸ h)⟩
  obtain ⟨evs, htrace, hbytes, hlines⟩ := execAt_lines_of_errs_nil (exec_eq_execAt i s ▸ h) ht
  refine ⟨evs, htrace, hlines, fun hlow => ?_⟩
  rw [hlines, hbytes]
  exact (endsLow_flatten (endsLow_operationParts hi hs)).getLastD hlow

end Sys2Proof.Machine
end

section
/-! PROOFS. The statements of 20_memory.md. What an operation puts on the bus is read off the bytes of its parts (`putBytes`),
block by block: bits 3 and 1 of each byte (`Carries`), which is what the trace needs, and what a receiver makes of them
(`Reads`). -/

namespace Sys2Proof.Machine

variable {E : Type}

/-! ## The bytes of a script -/

theorem putBytes_append (xs ys : List Act) : putBytes (xs ++ ys) = putBytes xs ++ putBytes ys :=
  List.filterMap_append ..

theorem mem_putBytes {script : List Act} {d : Byte} (h : .put d ∈ script) : d ∈ putBytes script :=
  List.mem_filterMap.mpr ⟨.put d, h, rfl⟩

/-! ## The backlight and read/write bits of every byte (R81, R82) -/

/-- Bits 3 and 1 of every byte the script writes make `bl`: the backlight flag is there and RW is clear. -/
def Carries (bl : Byte) (script : List Act) : Prop := ∀ d ∈ putBytes script, d &&& 0x0A = bl

theorem Carries.append {bl : Byte} {xs ys : List Act} (hx : Carries bl xs) (hy : Carries bl ys) :
    Carries bl (xs ++ ys) := by
  intro d hd
  rw [putBytes_append] at hd
  exact (List.mem_append.mp hd).elim (hx d) (hy d)

theorem Carries.readWrite_clear {bl : Byte} {script : List Act} (h : Carries bl script) (hbl : bl = 0x00 ∨ bl = 0x08) :
    ∀ d ∈ putBytes script, d &&& 0x02 = 0x00 := by
  intro d hd
  calc d &&& 0x02 = d &&& 0x0A &&& 0x02 := (BitVec.and_assoc d 0x0A 0x02).symm
    _ = bl &&& 0x02 := by rw [h d hd]
    _ = 0x00 := by obtain rfl | rfl := hbl <;> rfl

section Blocks

variable {bl : Byte} (hbl : bl &&& 0x0A = bl)
include hbl

theorem carries_put {x : Byte} (hx : x &&& 0x0A = 0x00) : Carries bl [.put (x ||| bl)] := by
  refine List.forall_mem_singleton.mpr ?_
  rw [BitVec.and_or_distrib_right, hx, hbl]
  exact BitVec.zero_or

theorem carries_scriptPulse {v : Byte} (hv : v &&& 0x0A = 0x00) : Carries bl (scriptPulse bl v) :=
  (carries_put hbl (or_and_eq_zero.mpr ⟨hv, by decide⟩)).append (carries_put hbl hv)

theorem carries_scriptSend (v : Byte) {rs : Byte} (hrs : rs &&& 0x0A = 0x00) : Carries bl (scriptSend bl v rs) := by
  have hnibble (u : Byte) : ((u &&& 0xF0) ||| rs) &&& 0x0A = 0x00 :=
    or_and_eq_zero.mpr ⟨by rw [BitVec.and_assoc]; exact BitVec.and_zero, hrs⟩
  exact (carries_scriptPulse hbl (hnibble v)).append (carries_scriptPulse hbl (hnibble (v <<< 4)))

theorem carries_scriptCommand (c : Byte) : Carries bl (scriptCommand bl c) := carries_scriptSend hbl c (by decide)

/-- A command byte and a delay after it. -/
theorem carries_scriptCommand_wait (c : Byte) (t : Delay) : Carries bl (scriptCommand bl c ++ [.wait t]) :=
  (carries_scriptCommand hbl c).append nofun

theorem carries_scriptData (c : Byte) : Carries bl (scriptData bl c) := carries_scriptSend hbl c (by decide)

theorem carries_scriptDataList (cs : List Byte) : Carries bl (scriptDataList bl cs) := by
  induction cs with
  | nil => exact nofun
  | cons c cs ih => exact (carries_scriptData hbl c).append ih

theorem carries_startOpening : Carries bl (startOpening bl) := by
  have hidle : Carries bl [.put bl] := List.forall_mem_singleton.mpr hbl
  have h3 : Carries bl (scriptPulse bl 0x30) := carries_scriptPulse hbl (by decide)
  have h2 : Carries bl (scriptPulse bl 0x20) := carries_scriptPulse hbl (by decide)
  exact (((hidle.append h3).append h3).append h3).append h2

theorem carries_startClosing (c : DisplayConfig) : Carries bl (startClosing c bl) :=
  ((((carries_scriptCommand hbl _).append (carries_scriptCommand hbl _)).append
    (carries_scriptCommand hbl _)).append (carries_scriptCommand hbl _)).append (carries_scriptCommand hbl _)

theorem carries_scriptStart (c : DisplayConfig) : Carries bl (scriptStart c bl) := by
  rw [scriptStart_eq]
  exact (carries_startOpening hbl).append (carries_startClosing hbl c)

/-- EXPANDERBYTE (R80): bit 3 is from BL alone, whatever the row's own backlight operand is. -/
theorem carries_expanderByte (n : BitVec 4) (r e : Bool) :
    Carries bl
      [.put (compose (n ++ 0x0#4 : BitVec (4 + 4)) (if r then RS else 0x00) (if e then EN else 0x00) bl)] := by
  have hn : (n ++ 0x0#4 : BitVec (4 + 4)) &&& 0x0A = 0x00 := by
    revert n
    decide
  have hr : (if r then RS else 0x00) &&& 0x0A = 0x00 := by cases r <;> rfl
  have he : (if e then EN else 0x00) &&& 0x0A = 0x00 := by cases e <;> rfl
  exact carries_put hbl (or_and_eq_zero.mpr ⟨or_and_eq_zero.mpr ⟨hn, hr⟩, he⟩)

end Blocks

/-- R81, R120: an instruction that does not write BL puts it in bit 3 of every byte. -/
theorem carries_operationParts {i : Instr} {s : State.Over E} (hi : i ∉ blWriters) (hbl : s.bl &&& 0x0A = s.bl) :
    ∀ part ∈ operationParts i s, Carries s.bl part := by
  have hone {script : List Act} (h : Carries s.bl script) : ∀ part ∈ [script], Carries s.bl part :=
    List.forall_mem_singleton.mpr h
  have hcommand (c : Byte) : Carries s.bl (scriptCommand s.bl c) := carries_scriptCommand hbl c
  cases i with
  | stop | backlightOn | backlightOff => exact absurd (by decide) hi
  | start => exact hone (carries_scriptStart hbl s.cfg)
  | writeChar byte => exact hone (carries_scriptData hbl byte)
  | dataByte value => exact hone (carries_scriptData hbl value)
  | print text => exact hone (carries_scriptDataList hbl text)
  | createChar slot rows => exact hone ((hcommand _).append (carries_scriptDataList hbl rows))
  | expanderByte n l e r => exact hone (carries_expanderByte hbl n r e)
  | clear | home => exact hone (carries_scriptCommand_wait hbl _ _)
  | _ => exact hone (hcommand _)

/-- R81, R83: no instruction sets RW. Those that write BL put in each byte the old flag or the new one (R158, R193). -/
theorem readWrite_clear_operationParts (i : Instr) {s : State.Over E} (hs : s.bl = 0x00 ∨ s.bl = 0x08) :
    ∀ part ∈ operationParts i s, ∀ d ∈ putBytes part, d &&& 0x02 = 0x00 := by
  have hbl : s.bl &&& 0x0A = s.bl := by obtain h | h := hs <;> rw [h] <;> rfl
  have hoff (c : Byte) : ∀ d ∈ putBytes (scriptCommand 0x00 c), d &&& 0x02 = 0x00 :=
    (carries_scriptCommand rfl c).readWrite_clear (.inl rfl)
  cases i with
  | stop =>
    simp only [operationParts, List.forall_mem_cons]
    exact ⟨(carries_scriptCommand_wait hbl _ _).readWrite_clear hs, List.forall_mem_singleton.mpr rfl,
      hoff _, hoff _, nofun⟩
  | backlightOn | backlightOff => exact List.forall_mem_singleton.mpr (List.forall_mem_singleton.mpr rfl)
  | _ => exact fun part hpart => (carries_operationParts (by simp [blWriters]) hbl part hpart).readWrite_clear hs

/-! ## The trace stays sound (R51, R63, R81) -/

/-- An entry that writes no byte with RW set keeps the trace sound: a bus write goes to ADDR and is counted. -/
theorem State.TraceSound.act {u : State.Over E} {a : Act} (ha : ∀ d, a = .put d → d &&& 0x02 = 0x00)
    (hu : u.TraceSound) : (u.act a).TraceSound := by
  obtain ⟨haddr, hrw, hdraws⟩ := hu
  cases a with
  | put d =>
    refine ⟨?_, ?_, ?_⟩
    · simpa [State.Over.act, allToAddress] using haddr
    · simpa [State.Over.act, writtenBytes, or_imp, forall_and] using ⟨hrw, ha d rfl⟩
    · simpa [State.Over.act, writtenBytes] using hdraws
  | wait t => simpa [State.Over.TraceSound, State.Over.act, allToAddress, writtenBytes] using ⟨haddr, hrw, hdraws⟩
  | _ => exact ⟨haddr, hrw, hdraws⟩

theorem execAt_traceSound {i : Instr} {s t : State.Over E} (hl : s.Legal) (hs : s.TraceSound)
    (h : execAt i s = .next t) : t.TraceSound := by
  obtain ⟨-, -, -, -, hbl⟩ := hl
  obtain ⟨-, -, rfl⟩ := execAt_next h
  refine State.playParts_preserves (fun _ _ hu => hu) (fun part hpart a ha _ hu => State.TraceSound.act ?_ hu) hs
  rintro d rfl
  exact readWrite_clear_operationParts i hbl part hpart d (mem_putBytes ha)

/-- Settles O51: legal registers stay legal (`execAt_legal`), and an instruction that starts with them legal has RW clear in
its bytes, so that each entry of its parts keeps the trace sound. -/
theorem everyStepKeepsTheTraceSound : Obligations.EveryStepKeepsTheTraceSound :=
  fun _ _ => step_preserves (P := fun u => u.Legal ∧ u.TraceSound) (fun _ _ hu => hu)
    (fun _ _ _ ⟨hl, hs⟩ h => ⟨execAt_legal hl h, execAt_traceSound hl hs h⟩)

/-! ## What a receiver reads (R53, R80, R84) -/

/-- A byte with enable low that starts no pulse carries nothing (R193). -/
theorem readBack_of_enable_low {d : Byte} (h : d.getLsbD 2 = false) (rest : List Byte) :
    readBack (d :: rest) = readBack rest := by
  rw [readBack.eq_def]
  exact if_neg (by simp only [h, Bool.false_eq_true, not_false_eq_true])

/-- Two pulses with the same register-select carry one value, the high nibble first (R53, R84). -/
theorem readBack_transfer {d₁ d₃ : Byte} (h₁ : d₁.getLsbD 2 = true) (h₃ : d₃.getLsbD 2 = true)
    (hrs : d₁.getLsbD 0 = d₃.getLsbD 0) (rest : List Byte) :
    readBack (d₁ :: (d₁ &&& ~~~EN) :: d₃ :: (d₃ &&& ~~~EN) :: rest) =
      ((d₁.getLsbD 0, (d₁.extractLsb' 4 4 ++ d₃.extractLsb' 4 4 : BitVec (4 + 4))) :: (readBack rest).1,
        (readBack rest).2) := by
  rw [readBack.eq_def]
  simp only [h₁, h₃, hrs, beq_self_eq_true, Bool.and_self, if_true]

theorem nibbles_append (v : Byte) : (v.extractLsb' 4 4 ++ (v <<< 4).extractLsb' 4 4 : BitVec (4 + 4)) = v := by
  have hlow : (v <<< 4).extractLsb' 4 4 = v.extractLsb' 0 4 := by
    ext i hi
    simp [show 4 + i < 8 by omega, BitVec.getLsbD_eq_getElem (show i < 8 by omega)]
  rw [hlow]
  exact BitVec.extractLsb'_append_extractLsb'

/-- What a receiver finds in the enable-high byte of a nibble of `v` (R80). -/
structure EnableHigh (v rs bl : Byte) : Prop where
  enable : ((v &&& 0xF0) ||| rs ||| EN ||| bl).getLsbD 2 = true
  registerSelect : ((v &&& 0xF0) ||| rs ||| EN ||| bl).getLsbD 0 = rs.getLsbD 0
  nibble : ((v &&& 0xF0) ||| rs ||| EN ||| bl).extractLsb' 4 4 = v.extractLsb' 4 4
  low : (v &&& 0xF0) ||| rs ||| bl = ((v &&& 0xF0) ||| rs ||| EN ||| bl) &&& ~~~EN

theorem enableHigh (v : Byte) {rs bl : Byte} (hrs : rs = 0x00 ∨ rs = 0x01) (hbl : bl = 0x00 ∨ bl = 0x08) :
    EnableHigh v rs bl := by
  have hnibble : (v &&& 240#8).extractLsb' 4 4 = v.extractLsb' 4 4 := by
    rw [BitVec.extractLsb'_and]
    exact BitVec.and_allOnes
  obtain rfl | rfl := hrs <;> obtain rfl | rfl := hbl <;>
    exact ⟨by simp [EN], by simp [EN], by simp [EN, BitVec.extractLsb'_or, hnibble],
      by simp [EN, BitVec.and_or_distrib_right, BitVec.and_assoc]⟩

/-- The script's bytes carry the values `vs` and end where a transfer ends. -/
def Reads (script : List Act) (vs : List (Bool × Byte)) : Prop :=
  ∀ rest, readBack (putBytes script ++ rest) = (vs ++ (readBack rest).1, (readBack rest).2)

theorem Reads.append {xs ys : List Act} {vs ws : List (Bool × Byte)} (hx : Reads xs vs) (hy : Reads ys ws) :
    Reads (xs ++ ys) (vs ++ ws) := by
  intro rest
  rw [putBytes_append, List.append_assoc, hx, hy, List.append_assoc]

theorem Reads.readBack_eq {script : List Act} {vs : List (Bool × Byte)} (h : Reads script vs) :
    readBack (putBytes script) = (vs, []) := by
  simpa [readBack] using h []

theorem reads_nil : Reads [] [] := fun _ => rfl

section Blocks

variable {bl : Byte} (hbl : bl = 0x00 ∨ bl = 0x08)
include hbl

theorem reads_scriptSend (v : Byte) {rs : Byte} (hrs : rs = 0x00 ∨ rs = 0x01) :
    Reads (scriptSend bl v rs) [(rs.getLsbD 0, v)] := by
  intro rest
  have hhigh := enableHigh v hrs hbl
  have hlow := enableHigh (v <<< 4) hrs hbl
  have h := readBack_transfer hhigh.enable hlow.enable (hhigh.registerSelect.trans hlow.registerSelect.symm) rest
  rwa [← hhigh.low, ← hlow.low, hhigh.registerSelect, hhigh.nibble, hlow.nibble, nibbles_append] at h

theorem reads_scriptCommand (c : Byte) : Reads (scriptCommand bl c) [(false, c)] := reads_scriptSend hbl c (.inl rfl)

theorem reads_scriptData (c : Byte) : Reads (scriptData bl c) [(true, c)] := reads_scriptSend hbl c (.inr rfl)

theorem reads_scriptDataList (cs : List Byte) : Reads (scriptDataList bl cs) (cs.map (true, ·)) := by
  induction cs with
  | nil => exact reads_nil
  | cons c cs ih => exact (reads_scriptData hbl c).append ih

/-- A backlight operation's one byte is a bare one (R193). -/
theorem reads_backlight : Reads [.setBl bl, .put bl] [] := by
  have hlow : bl.getLsbD 2 = false := by obtain rfl | rfl := hbl <;> rfl
  exact readBack_of_enable_low hlow

theorem reads_startClosing (c : DisplayConfig) : Reads (startClosing c bl)
    [(false, 0x20 ||| functionFlags c), (false, 0x08 ||| c.flags.displayOn), (false, 0x01),
     (false, 0x04 ||| c.flags.entryLeft), (false, 0x02)] :=
  ((((reads_scriptCommand hbl _).append (reads_scriptCommand hbl _)).append
    (reads_scriptCommand hbl _)).append (reads_scriptCommand hbl _)).append (reads_scriptCommand hbl _)

end Blocks

theorem putBytes_scriptStart (c : DisplayConfig) (bl : Byte) :
    putBytes (scriptStart c bl) = [bl, 0x34 ||| bl, 0x30 ||| bl, 0x34 ||| bl, 0x30 ||| bl, 0x34 ||| bl, 0x30 ||| bl,
      0x24 ||| bl, 0x20 ||| bl] ++ putBytes (startClosing c bl) := by
  rw [scriptStart_eq, putBytes_append]
  rfl

/-- R164: the row is clamped to the last one. -/
theorem clampRow_eq_min (rows : Nat) (row : Byte) : clampRow rows row = min row.toNat (rows - 1) := by
  unfold clampRow
  split <;> omega

/-- The parts of an operation, one after the other, carry the values of its rule. -/
theorem reads_operationParts {i : Instr} {s : State.Over E} (hi : i.isOperation = true) (hstart : i ≠ .start)
    (hbl : s.bl = 0x00 ∨ s.bl = 0x08) : Reads (operationParts i s).flatten (sentValues i s) := by
  have hone {script : List Act} {vs : List (Bool × Byte)} (h : Reads script vs) : Reads [script].flatten vs := by
    rwa [List.flatten_singleton]
  have hcommand (c : Byte) : Reads (scriptCommand s.bl c) [(false, c)] := reads_scriptCommand hbl c
  have hoff (c : Byte) : Reads (scriptCommand 0x00 c) [(false, c)] := reads_scriptCommand (.inl rfl) c
  cases i with
  | start => exact absurd rfl hstart
  | stop => exact (hcommand _).append ((reads_backlight (.inl rfl)).append ((hoff _).append ((hoff _).append reads_nil)))
  | setCursor col row =>
    rw [sentValues, ← clampRow_eq_min]
    exact hone (hcommand _)
  | backlightOn => exact hone (reads_backlight (.inr rfl))
  | backlightOff => exact hone (reads_backlight (.inl rfl))
  | writeChar byte => exact hone (reads_scriptData hbl byte)
  | print text => exact hone (reads_scriptDataList hbl text)
  | createChar slot rows => exact hone ((hcommand (createCharCommand slot)).append (reads_scriptDataList hbl rows))
  | clear | home | scrollLeft | scrollRight => exact hone (hcommand _)
  | displayOn | displayOff | cursorOn | cursorOff | blinkOn | blinkOff => exact hone (hcommand _)
  | leftToRight | rightToLeft | autoscrollOn | autoscrollOff => exact hone (hcommand _)
  | _ => cases hi

theorem rawBytes_of_ne_start {i : Instr} (h : i ≠ .start) : rawBytes i = 0 := by
  cases i with
  | start => exact absurd rfl h
  | _ => rfl

/-- Settles O48: an operation without error has written the bytes of its parts (`execAt_lines_of_errs_nil`), and a receiver
reads them block by block; in START the blocks come after the nine bytes of its opening. -/
theorem receiverReadsBackTheValuesSent : Obligations.ReceiverReadsBackTheValuesSent := by
  intro i s t hi hs h ht
  obtain ⟨-, -, -, -, hbl⟩ := hs
  obtain ⟨evs, htrace, hbytes, -⟩ := execAt_lines_of_errs_nil (exec_eq_execAt i s ▸ h) ht
  refine ⟨evs, htrace, ?_⟩
  rw [hbytes]
  by_cases hstart : i = .start
  · subst hstart
    rw [operationParts, List.flatten_singleton, putBytes_scriptStart]
    exact ⟨(reads_startClosing hbl s.cfg).readBack_eq, fun _ => rfl⟩
  · rw [rawBytes_of_ne_start hstart, List.drop_zero]
    exact ⟨(reads_operationParts hi hstart hbl).readBack_eq, fun h => absurd h hstart⟩

end Sys2Proof.Machine
end

section
/-! PROOFS. The statements of 30_encoding.md that are about words and bytes alone: the request word of R101 with the selectors
of R102 and R103, the command bytes of R86 to R94, the data byte of R96 and the expander byte of R80. -/

namespace Sys2Proof

/-! ## The request word (R101 to R103) -/

/-- Settles O6: the selector reads back from the word, and the operands that the operation takes with it. -/
theorem selectorsNameTheOperations : Obligations.SelectorsNameTheOperations := by
  simp only [Obligations.SelectorsNameTheOperations, Machine.selects, decode, decodeOperation, reqSelector_reqWord,
    reqA_reqWord, reqB_reqWord]
  exact ⟨fun _ _ _ => rfl, fun _ _ _ => rfl, fun _ _ _ => rfl, fun _ _ _ => rfl, fun _ _ _ => rfl, fun _ _ _ => rfl,
    fun _ _ _ => rfl, fun _ _ _ => rfl, fun _ _ _ => rfl, fun _ _ _ => rfl, fun _ _ _ => rfl, fun _ _ _ => rfl,
    fun _ _ _ => rfl, fun _ _ _ => rfl, fun _ _ _ => rfl, fun _ _ _ => rfl, fun _ _ _ => rfl, fun _ _ _ => rfl,
    fun _ _ _ => ⟨rfl, rfl, rfl, rfl⟩⟩

theorem decodeOperation_of_unassigned {w : BitVec 24} (h : reqSelector w = 0x00 ∨ 0x17 ≤ (reqSelector w).toNat)
    (p : List Byte) : decodeOperation w p = .error (.unassignedSelector (reqSelector w)) := by
  have hsel : (reqSelector w).toNat = 0 ∨ 0x17 ≤ (reqSelector w).toNat := h.imp_left fun h0 => by rw [h0]; rfl
  unfold decodeOperation
  split
  case h_23 => rfl
  all_goals omega

/-- Settles O7: no arm of `decodeOperation` but the last takes such a selector, and a step refuses what does not decode. -/
theorem unassignedSelectorsAreRefused : Obligations.UnassignedSelectorsAreRefused := by
  intro w p h
  have hd : decode (.operation w p) = .error (.unassignedSelector (reqSelector w)) := decodeOperation_of_unassigned h p
  exact ⟨hd, fun s rest hs => by simp [Machine.step, hs, hd]⟩

/-! ## Decoding what was encoded -/

theorem decode_encode_expanderByte (n : BitVec 4) (l e r : Bool) :
    decode (encode (.expanderByte n l e r)) = .ok (.expanderByte n l e r) := by
  cases l <;> cases e <;> cases r <;> revert n <;> decide

/-- Settles O8: the selector and the operands of a request word read back (`reqSelector_reqWord`, `reqA_reqWord`,
`reqB_reqWord`); of a command byte the fixed bits name its format, and its fields are what is left. -/
theorem encodeThenDecodeGivesTheInstruction : Obligations.EncodeThenDecodeGivesTheInstruction := by
  intro i
  cases i with
  | clearDisplay | returnHome | dataByte value => rfl
  | entryModeSet d n => cases d <;> cases n <;> rfl
  | displayControl d c b => cases d <;> cases c <;> cases b <;> rfl
  | cursorShift m r => cases m <;> cases r <;> rfl
  | functionSet w l f => cases w <;> cases l <;> cases f <;> rfl
  | setCgramAddr slot => revert slot; decide
  | setDdramAddr address => revert address; decide
  | expanderByte n l e r => exact decode_encode_expanderByte n l e r
  | _ => simp [encode, decode, decodeOperation]

/-! ## Encoding what was decoded -/

theorem flagBit_getLsbD {w : Nat} (x : BitVec w) (k : Nat) : flagBit (x.getLsbD k) = x.extractLsb' k 1 := by
  ext i hi
  obtain rfl : i = 0 := by omega
  simp [flagBit]

/-- A field of `x` and the field just below it make one longer field of `x`. -/
theorem append_field {w j k n m : Nat} {x : BitVec w} {y : BitVec n} {z : BitVec m} (hy : y = x.extractLsb' j n)
    (hz : z = x.extractLsb' k m) (h : j = k + m := by rfl) : y ++ z = x.extractLsb' k (n + m) := by
  rw [hy, hz]
  exact BitVec.extractLsb'_append_extractLsb'_eq_extractLsb' h

/-- Format by format, the bits that the format fixes and the fields read from the byte make the byte again. -/
theorem encode_of_decodeCommand {c : Byte} {i : Instr} (h : decodeCommand c = .ok i) :
    encode i = .command c ∧ i.isOperation = false := by
  have hflag (k : Nat) : flagBit (c.getLsbD k) = c.extractLsb' k 1 := flagBit_getLsbD c k
  have hwhole {y : Byte} (hy : y = c.extractLsb' 0 8) : Request.command y = .command c :=
    congrArg Request.command (hy.trans BitVec.extractLsb'_eq_self)
  simp only [decodeCommand, Bool.and_eq_true, beq_iff_eq] at h
  split at h
  · next htop =>
    cases h
    have hhigh : 1#1 = c.extractLsb' 7 1 := by rw [← hflag, htop]; rfl
    exact ⟨hwhole (append_field hhigh rfl), rfl⟩
  split at h
  · next hfixed =>
    obtain ⟨hhigh, hlow⟩ := hfixed
    cases h
    exact ⟨hwhole (append_field (append_field hhigh.symm rfl) hlow.symm), rfl⟩
  split at h
  · next hfixed =>
    obtain ⟨hhigh, hlow⟩ := hfixed
    cases h
    exact ⟨hwhole (append_field (append_field (append_field (append_field hhigh.symm (hflag 4)) (hflag 3)) (hflag 2))
      hlow.symm), rfl⟩
  split at h
  · next hfixed =>
    obtain ⟨hhigh, hlow⟩ := hfixed
    cases h
    exact ⟨hwhole (append_field (append_field (append_field hhigh.symm (hflag 3)) (hflag 2)) hlow.symm), rfl⟩
  split at h
  · next hhigh =>
    cases h
    exact ⟨hwhole (append_field (append_field (append_field hhigh.symm (hflag 2)) (hflag 1)) (hflag 0)), rfl⟩
  split at h
  · next hhigh =>
    cases h
    exact ⟨hwhole (append_field (append_field hhigh.symm (hflag 1)) (hflag 0)), rfl⟩
  split at h
  · next hc =>
    cases h
    exact ⟨congrArg _ hc.symm, rfl⟩
  split at h
  · next hc =>
    cases h
    exact ⟨congrArg _ hc.symm, rfl⟩
  · cases h

theorem encode_of_decodeExpander {d : Byte} {i : Instr} (h : decodeExpander d = .ok i) :
    encode i = .expander d ∧ i.isOperation = false := by
  have hflag (k : Nat) : flagBit (d.getLsbD k) = d.extractLsb' k 1 := flagBit_getLsbD d k
  unfold decodeExpander at h
  split at h
  · cases h
  · next hrw =>
    cases h
    have hrw : 0#1 = d.extractLsb' 1 1 := by rw [← hflag, Bool.eq_false_iff.mpr hrw]; rfl
    refine ⟨congrArg Request.expander ?_, rfl⟩
    exact (append_field (append_field (append_field (append_field rfl (hflag 3)) (hflag 2)) hrw) (hflag 0)).trans
      BitVec.extractLsb'_eq_self

/-- Settles O9: by the entry of the inner layer. -/
theorem innerBytesHaveOneMeaning : Obligations.InnerBytesHaveOneMeaning := by
  intro r i hr h
  cases r with
  | operation word payload => cases hr
  | command c => exact encode_of_decodeCommand h
  | data c => cases h; exact ⟨rfl, rfl⟩
  | expander d => exact encode_of_decodeExpander h

/-! ## Words written out -/

/-- Settles O10: each word is closed, and the decoder evaluates on it. -/
theorem writtenOutWordsDecode : Obligations.WrittenOutWordsDecode := by
  unfold Obligations.WrittenOutWordsDecode
  decide

end Sys2Proof
end

section
/-! PROOFS. The statements of 30_encoding.md that are about what the block puts on the bus. Three readings of an instruction's
parts (`operationParts`) serve them: as one script with the response of R9 (`exec_eq_plays`), as the bytes added to the trace
(`execAt_writtenBytes`), and as the runs between two failures (`execAt_succeededRuns`). -/

namespace Sys2Proof.Machine

variable {E : Type}

/-! ## The expander byte (R80, R82) -/

/-- The four parts stand in disjoint bits. -/
theorem compose_eq_append (n : BitVec 4) (rs en bl : Bool) :
    compose (n ++ 0x0#4 : BitVec (4 + 4)) (if rs then 0x01 else 0x00) (if en then 0x04 else 0x00)
        (if bl then 0x08 else 0x00) =
      (n ++ BitVec.ofBool bl ++ BitVec.ofBool en ++ 0#1 ++ BitVec.ofBool rs : BitVec (4 + 1 + 1 + 1 + 1)) := by
  cases rs <;> cases en <;> cases bl <;> revert n <;> decide

/-- Settles O11: XWRITE is one write of the composed byte. -/
theorem expanderByteIsComposed : Obligations.ExpanderByteIsComposed := by
  intro E n rs en bl s hbl
  rw [xwrite_played, hbl, compose_eq_append]

/-! ## An instruction of one part -/

theorem exec_eq_plays {i : Instr} {s : State} {script : List Act} (hi : i ≠ .start) (hw : s.cfg.wellFormed = true)
    (hparts : operationParts i s = [script]) : exec i s = .next (s.plays script) := by
  rw [exec_eq_execAt, execAt_of_ne_start hi, guardConfiguration_of_wellFormed hw, hparts, State.playParts_singleton]

/-- A script in two pieces, of which the first succeeds: two operations in a row (R9). -/
theorem State.plays_append_of_errs_nil {xs : List Act} {s : State.Over E} (h : (s.plays xs).errs = []) (ys : List Act) :
    s.plays (xs ++ ys) = (s.plays xs).plays ys := by
  have hnone : (s.play xs).2 = none := Option.toList_eq_nil_iff.mp h
  simp only [State.Over.plays, State.play_append, hnone, State.setErrs_play]
  rfl

/-- A script in two pieces, of which the first fails: the second is not played (R18). -/
theorem State.plays_append_of_errs_ne_nil {xs : List Act} {s : State.Over E} (h : (s.plays xs).errs ≠ [])
    (ys : List Act) : s.plays (xs ++ ys) = s.plays xs := by
  obtain ⟨e, he⟩ : ∃ e, (s.play xs).2 = some e := Option.ne_none_iff_exists'.mp (mt Option.toList_eq_nil_iff.mpr h)
  simp only [State.Over.plays, State.play_append, he]

theorem exec_writeChar {s : State} (hw : s.cfg.wellFormed = true) (c : Byte) :
    exec (.writeChar c) s = .next (s.plays (scriptData s.bl c)) := exec_eq_plays nofun hw rfl

theorem exec_print {s : State} (hw : s.cfg.wellFormed = true) (cs : List Byte) :
    exec (.print cs) s = .next (s.plays (scriptDataList s.bl cs)) := exec_eq_plays nofun hw rfl

/-- Settles O24: the script of a text is that of its first byte, then that of the others. -/
theorem printIsRepeatedWriteChar : Obligations.PrintIsRepeatedWriteChar := by
  intro c cs s t h
  obtain ⟨hw, -, -⟩ := execAt_next (exec_eq_execAt _ s ▸ h)
  obtain rfl : s.plays (scriptData s.bl c) = t := Host.Outcome.next.inj ((exec_writeChar hw c).symm.trans h)
  have hcfg : (s.plays (scriptData s.bl c)).cfg = s.cfg := State.play_cfg _ s
  have hbl : (s.plays (scriptData s.bl c)).bl = s.bl := State.play_bl ((data_follows (E := TErr) c).keeps s.cfg s.bl) s
  have hcons : scriptDataList s.bl (c :: cs) = scriptData s.bl c ++ scriptDataList s.bl cs := List.flatMap_cons
  rw [exec_print hw, hcons]
  refine ⟨fun hok => ?_, fun hfail => ?_⟩
  · rw [exec_print (hcfg ▸ hw), State.plays_append_of_errs_nil hok, hbl]
  · rw [State.plays_append_of_errs_ne_nil hfail]

/-! ## The wire-level rows (R80, R86 to R96) -/

theorem setCgramAddr_byte (slot : BitVec 3) : wireByte (.setCgramAddr slot) = 0x40 ||| (slot.zeroExtend 8 <<< 3) := by
  revert slot; decide

theorem setDdramAddr_byte (a : BitVec 7) : wireByte (.setDdramAddr a) = 0x80 ||| a.zeroExtend 8 := by
  revert a; decide

theorem append_zero_nibble (n : BitVec 4) : (n ++ 0x0#4 : BitVec (4 + 4)) = n.zeroExtend 8 <<< 4 := by
  revert n; decide

/-- The same byte with its parts in the order of the table: the nibble, EN, RS, the backlight flag. -/
theorem compose_nibble (n : BitVec 4) (rs en bl : Byte) :
    compose (n ++ 0x0#4 : BitVec (4 + 4)) rs en bl = (n.zeroExtend 8 <<< 4) ||| en ||| rs ||| bl := by
  rw [compose, append_zero_nibble, BitVec.or_assoc _ rs, BitVec.or_comm rs, ← BitVec.or_assoc]

/-- Settles O34: each row's one part is the script of its byte (`operationParts`), and the byte's fields stand in the bits
of the table. -/
theorem wireRowsSendTheirByte : Obligations.WireRowsSendTheirByte := by
  intro s hw
  have hcommand {i : Instr} {c : Byte} (hi : i ≠ .start) (hparts : operationParts i s = [scriptCommand s.bl (wireByte i)])
      (hbyte : wireByte i = c) : exec i s = .next (s.plays (scriptCommand s.bl c)) :=
    exec_eq_plays hi hw (hbyte ▸ hparts)
  refine ⟨hcommand nofun rfl rfl, hcommand nofun rfl rfl, fun d i => hcommand nofun rfl ?_,
    fun d c b => hcommand nofun rfl ?_, fun m r => hcommand nofun rfl ?_, fun w l f => hcommand nofun rfl ?_,
    fun slot => hcommand nofun rfl (setCgramAddr_byte slot), fun a => hcommand nofun rfl (setDdramAddr_byte a),
    fun v => exec_eq_plays nofun hw rfl, fun n l e r => ?_⟩
  · cases d <;> cases i <;> rfl
  · cases d <;> cases c <;> cases b <;> rfl
  · cases m <;> cases r <;> rfl
  · cases w <;> cases l <;> cases f <;> rfl
  · rw [exec_eq_plays (i := .expanderByte n l e r) nofun hw rfl, compose_nibble]
    rfl

/-! ## The bytes an instruction adds (R81) -/

/-- Every byte that an instruction writes, whatever is answered, is one of its parts. -/
theorem execAt_writtenBytes {i : Instr} {s t : State.Over E} (h : execAt i s = .next t) :
    ∃ evs, t.trace = s.trace ++ evs ∧ ∀ d ∈ writtenBytes evs, ∃ part ∈ operationParts i s, d ∈ putBytes part := by
  obtain ⟨-, -, rfl⟩ := execAt_next h
  refine State.playParts_preserves
    (P := fun u => ∃ evs, u.trace = s.trace ++ evs ∧
      ∀ d ∈ writtenBytes evs, ∃ part ∈ operationParts i s, d ∈ putBytes part)
    (fun _ _ hu => hu) ?_ ⟨[], (List.append_nil _).symm, nofun⟩
  rintro part hpart a ha u ⟨evs, htrace, hbytes⟩
  cases a with
  | put d =>
    refine ⟨evs ++ [.write u.cfg.addr d u.nextAnswer], by simp [State.Over.act, htrace], ?_⟩
    simp only [writtenBytes_append, writtenBytes, List.forall_mem_append, List.forall_mem_singleton]
    exact ⟨hbytes, part, hpart, mem_putBytes ha⟩
  | wait t =>
    refine ⟨evs ++ [.delay t], by simp [State.Over.act, htrace], ?_⟩
    simpa [writtenBytes] using hbytes
  | _ => exact ⟨evs, htrace, hbytes⟩

/-- Settles O43: from a legal state RW is clear in every byte of the instruction's parts. -/
theorem readWriteBitIsNeverSet : Obligations.ReadWriteBitIsNeverSet := by
  refine ⟨rfl, rfl, rfl, rfl, fun i s t hs h => ?_⟩
  obtain ⟨-, -, -, -, hbl⟩ := hs
  obtain ⟨evs, htrace, hbytes⟩ := execAt_writtenBytes (exec_eq_execAt i s ▸ h)
  refine ⟨evs, htrace, fun d hd => ?_⟩
  obtain ⟨part, hpart, hd⟩ := hbytes d hd
  exact readWrite_clear_operationParts i hbl part hpart d hd

/-! ## The runs between two failures (R18, R156, R236) -/

/-- A script's events, and whatever comes after them: if the script ends, its bytes go on into the first run of what comes
after; if a write of it fails, the bytes before that write are a run of their own. -/
theorem State.play_succeededRuns (script : List Act) (s : State.Over E) :
    ∃ evs, (s.play script).1.trace = s.trace ++ evs ∧
      ((∀ es run runs, succeededRuns es = run :: runs → succeededRuns (evs ++ es) = (putBytes script ++ run) :: runs) ∨
        ∃ first, first <+: putBytes script ∧ ∀ es, succeededRuns (evs ++ es) = first :: succeededRuns es) := by
  induction script generalizing s with
  | nil => exact ⟨[], (List.append_nil _).symm, .inl fun _ _ _ h => h⟩
  | cons a as ih =>
    cases a with
    | put d =>
      simp only [State.Over.play]
      cases s.nextAnswer with
      | ok =>
        obtain ⟨evs, htrace, hruns⟩ := ih (s.recordWrite d .ok)
        refine ⟨.write s.cfg.addr d .ok :: evs, by simpa using htrace, ?_⟩
        obtain hdone | ⟨first, hfirst, hfail⟩ := hruns
        · refine .inl fun es run runs h => ?_
          simp only [List.cons_append, succeededRuns, hdone es run runs h]
          rfl
        · refine .inr ⟨d :: first, (List.prefix_cons_inj d).mpr hfirst, fun es => ?_⟩
          simp only [List.cons_append, succeededRuns, hfail es]
      | fail e =>
        exact ⟨[.write s.cfg.addr d (.fail e)], rfl, .inr ⟨[], List.nil_prefix, fun _ => rfl⟩⟩
    | wait t =>
      obtain ⟨evs, htrace, hruns⟩ := ih (s.recordDelay t)
      exact ⟨.delay t :: evs, by simpa [State.Over.play] using htrace, hruns⟩
    | setPhase p => exact ih (s.setPhase p)
    | setFunc v => exact ih (s.setFunc v)
    | setDctl v => exact ih (s.setDctl v)
    | setEmode v => exact ih (s.setEmode v)
    | setBl v => exact ih (s.setBl v)

/-- The runs of an operation's parts, whatever is answered: the first starts where the parts start, each other where one of
them does, and each goes on from part to part until a write fails. -/
theorem State.foldl_playPart_succeededRuns (parts : List (List Act)) (s : State.Over E) :
    ∃ evs run runs, (parts.foldl State.Over.playPart s).trace = s.trace ++ evs ∧ succeededRuns evs = run :: runs ∧
      run <+: putBytes parts.flatten ∧ ∀ r ∈ runs, ∃ rest, rest <:+ parts ∧ r <+: putBytes rest.flatten := by
  induction parts generalizing s with
  | nil => exact ⟨[], [], [], (List.append_nil _).symm, rfl, List.nil_prefix, nofun⟩
  | cons part parts ih =>
    obtain ⟨evs, htrace, hpart⟩ := State.play_succeededRuns part s
    obtain ⟨evs', run, runs, htrace', heq, hrun, hruns⟩ := ih (s.playPart part)
    have hlater : ∀ r ∈ runs, ∃ rest, rest <:+ part :: parts ∧ r <+: putBytes rest.flatten := fun r hr =>
      let ⟨rest, hrest, hprefix⟩ := hruns r hr
      ⟨rest, hrest.trans (List.suffix_cons part parts), hprefix⟩
    have htotal : ((part :: parts).foldl State.Over.playPart s).trace = s.trace ++ (evs ++ evs') := by
      rw [← List.append_assoc, ← htrace]
      exact htrace'
    rw [List.flatten_cons, putBytes_append]
    obtain hdone | ⟨first, hfirst, hfail⟩ := hpart
    · exact ⟨evs ++ evs', _, runs, htotal, hdone evs' run runs heq, (List.prefix_append_right_inj _).mpr hrun, hlater⟩
    · exact ⟨evs ++ evs', first, run :: runs, htotal, heq ▸ hfail evs', List.prefix_append_of_prefix hfirst,
        List.forall_mem_cons.mpr ⟨⟨parts, List.suffix_cons part parts, hrun⟩, hlater⟩⟩

theorem execAt_succeededRuns {i : Instr} {s t : State.Over E} (h : execAt i s = .next t) :
    ∃ evs, t.trace = s.trace ++ evs ∧
      ∀ run ∈ succeededRuns evs, ∃ rest, rest <:+ operationParts i s ∧ run <+: putBytes rest.flatten := by
  obtain ⟨-, -, rfl⟩ := execAt_next h
  obtain ⟨evs, run, runs, htrace, heq, hrun, hruns⟩ :=
    State.foldl_playPart_succeededRuns (operationParts i s) (s.setErrs [])
  exact ⟨evs, htrace, heq ▸ List.forall_mem_cons.mpr ⟨⟨_, List.suffix_rfl, hrun⟩, hruns⟩⟩

/-- Of bytes that break off, a receiver reads the values at their front. -/
theorem readBack_prefix {run bytes : List Byte} (h : run <+: bytes) : (readBack run).1 <+: (readBack bytes).1 := by
  obtain ⟨rest, rfl⟩ := h
  induction run using readBack.induct with
  | case1 => exact List.nil_prefix
  | case2 d₁ h₁ d₂ d₃ d₄ run hpulse vs left heq ih =>
    rw [heq] at ih
    rw [readBack, List.cons_append, List.cons_append, List.cons_append, List.cons_append, readBack]
    simp only [h₁, hpulse, heq, if_true]
    exact (List.prefix_cons_inj _).mpr ih
  | case3 d₁ h₁ d₂ d₃ d₄ run hpulse =>
    rw [readBack]
    simp only [h₁, hpulse, if_true]
    exact List.nil_prefix
  | case4 d₁ ds h₁ hshort =>
    rw [readBack.eq_def]
    simp only [h₁, if_true]
    exact List.nil_prefix
  | case5 d₁ ds h₁ ih =>
    have h₁ : d₁.getLsbD 2 = false := Bool.eq_false_iff.mpr h₁
    rw [List.cons_append, readBack_of_enable_low h₁, readBack_of_enable_low h₁]
    exact ih

/-! ## The command bytes the block can emit (R98) -/

/-- The byte decodes as a command in the form that R98 lists. -/
def Emittable (c : Byte) : Prop := ∃ j, decode (.command c) = .ok j ∧ j.emittable = true

theorem emittable_of_encode {j : Instr} {c : Byte} (hj : j.emittable = true) (h : encode j = .command c) : Emittable c :=
  ⟨j, h ▸ encodeThenDecodeGivesTheInstruction j, hj⟩

theorem emittable_setDdramAddr (x : Byte) : Emittable (0x80 ||| x) :=
  emittable_of_encode (j := .setDdramAddr (x.extractLsb' 0 7)) rfl (by revert x; decide)

theorem emittable_createCharCommand (slot : Byte) : Emittable (createCharCommand slot) :=
  emittable_of_encode (j := .setCgramAddr (slot.extractLsb' 0 3)) rfl (by revert slot; decide)

theorem emittable_displayControl {v : Byte} (h : v &&& 0xF8 = 0x00) : Emittable (0x08 ||| v) :=
  emittable_of_encode (j := .displayControl (v.getLsbD 2) (v.getLsbD 1) (v.getLsbD 0)) rfl (by revert v; decide)

theorem emittable_entryMode {v : Byte} (h : v &&& 0xFC = 0x00) : Emittable (0x04 ||| v) :=
  emittable_of_encode (j := .entryModeSet (v.getLsbD 1) (v.getLsbD 0)) rfl (by revert v; decide)

theorem emittable_clear : Emittable 0x01 := ⟨.clearDisplay, rfl, rfl⟩

theorem emittable_home : Emittable 0x02 := ⟨.returnHome, rfl, rfl⟩

/-- R91, R146: 0x20, 0x24 or 0x28. -/
theorem emittable_functionSet {c : DisplayConfig} (h : c.flags = FlagConstants.default) :
    Emittable (0x20 ||| functionFlags c) := by
  rw [functionFlags, h]
  by_cases hrows : c.rows > 1
  · rw [if_pos hrows, if_neg (by omega)]
    exact ⟨.functionSet false true false, rfl, rfl⟩
  · rw [if_neg hrows]
    split
    · exact ⟨.functionSet false false true, rfl, rfl⟩
    · exact ⟨.functionSet false false false, rfl, rfl⟩

theorem emittable_scrollLeft {f : FlagConstants} (h : f = FlagConstants.default) : Emittable (scrollLeftCommand f) :=
  h ▸ ⟨.cursorShift true false, rfl, rfl⟩

theorem emittable_scrollRight {f : FlagConstants} (h : f = FlagConstants.default) : Emittable (scrollRightCommand f) :=
  h ▸ ⟨.cursorShift true true, rfl, rfl⟩

/-! ## The command bytes that an operation's parts carry (R97, R98) -/

/-- The script's bytes carry whole values, and each command byte among them is one that the block can emit. -/
def EmitsListed (script : List Act) : Prop :=
  ∃ vs, Reads script vs ∧ ∀ c, (false, c) ∈ vs → Emittable c

theorem EmitsListed.append {xs ys : List Act} (hx : EmitsListed xs) (hy : EmitsListed ys) : EmitsListed (xs ++ ys) := by
  obtain ⟨vs, hvs, hv⟩ := hx
  obtain ⟨ws, hws, hw⟩ := hy
  exact ⟨vs ++ ws, hvs.append hws, fun c hc => (List.mem_append.mp hc).elim (hv c) (hw c)⟩

theorem emitsListed_nil : EmitsListed [] := ⟨[], reads_nil, nofun⟩

theorem emitsListed_flatten {parts : List (List Act)} (h : ∀ part ∈ parts, EmitsListed part) :
    EmitsListed parts.flatten := by
  induction parts with
  | nil => exact emitsListed_nil
  | cons part parts ih =>
    obtain ⟨hpart, hparts⟩ := List.forall_mem_cons.mp h
    exact hpart.append (ih hparts)

/-- What a receiver reads of such bytes, wherever they break off. -/
theorem EmitsListed.emittable {script : List Act} (h : EmitsListed script) {run : List Byte}
    (hrun : run <+: putBytes script) {c : Byte} (hc : (false, c) ∈ (readBack run).1) : Emittable c := by
  obtain ⟨vs, hvs, hv⟩ := h
  have hmem : (false, c) ∈ (readBack (putBytes script)).1 := (readBack_prefix hrun).mem hc
  rw [hvs.readBack_eq] at hmem
  exact hv c hmem

section Blocks

variable {bl : Byte} (hbl : bl = 0x00 ∨ bl = 0x08)
include hbl

theorem emitsListed_scriptCommand {c : Byte} (hc : Emittable c) : EmitsListed (scriptCommand bl c) :=
  ⟨_, reads_scriptCommand hbl c, by simpa using hc⟩

/-- A command byte and a delay after it. -/
theorem emitsListed_scriptCommand_wait {c : Byte} (hc : Emittable c) (t : Delay) :
    EmitsListed (scriptCommand bl c ++ [.wait t]) :=
  (emitsListed_scriptCommand hbl hc).append emitsListed_nil

theorem emitsListed_scriptDataList (cs : List Byte) : EmitsListed (scriptDataList bl cs) :=
  ⟨_, reads_scriptDataList hbl cs, by simp⟩

theorem emitsListed_scriptData (c : Byte) : EmitsListed (scriptData bl c) :=
  ⟨_, reads_scriptData hbl c, by simp⟩

theorem emitsListed_backlight : EmitsListed [.setBl bl, .put bl] := ⟨[], reads_backlight hbl, nofun⟩

/-- DCTL is sent whole (R89). -/
theorem emitsListed_scriptDctl {v : Byte} (hv : v &&& 0xF8 = 0x00) : EmitsListed (scriptDctl bl v) :=
  emitsListed_scriptCommand hbl (emittable_displayControl hv)

/-- EMODE is sent whole (R88). -/
theorem emitsListed_scriptEmode {v : Byte} (hv : v &&& 0xFC = 0x00) : EmitsListed (scriptEmode bl v) :=
  emitsListed_scriptCommand hbl (emittable_entryMode hv)

/-- What an instruction writes to DCTL is legal when the state is (R26, `MayPlay`). -/
theorem emitsListed_dctl_part {i : Instr} {s : State.Over E} (hs : s.Legal) {v : Byte}
    (hpart : scriptDctl bl v ∈ operationParts i s) : EmitsListed (scriptDctl bl v) :=
  have hmay : MayPlay i s (.setDctl v) := operationParts_mayPlay i s _ hpart _ (List.mem_cons_self ..)
  emitsListed_scriptDctl hbl (hmay.2 hs)

/-- What an instruction writes to EMODE is legal when the state is (R27, `MayPlay`). -/
theorem emitsListed_emode_part {i : Instr} {s : State.Over E} (hs : s.Legal) {v : Byte}
    (hpart : scriptEmode bl v ∈ operationParts i s) : EmitsListed (scriptEmode bl v) :=
  have hmay : MayPlay i s (.setEmode v) := operationParts_mayPlay i s _ hpart _ (List.mem_cons_self ..)
  emitsListed_scriptEmode hbl (hmay.2 hs)

/-- The function-set command of START and its steps 6 to 9 (R146 to R150). -/
theorem emitsListed_startClosing {c : DisplayConfig} (hw : c.wellFormed = true)
    (hflags : c.flags = FlagConstants.default) : EmitsListed (startClosing c bl) := by
  have hmasks := flagsWithinMasks_of_wellFormed hw
  exact (((((emitsListed_scriptCommand hbl (emittable_functionSet hflags)).append
    (emitsListed_scriptDctl hbl hmasks.displayOn)).append
    (emitsListed_scriptCommand_wait hbl emittable_clear .tLong)).append
    (emitsListed_scriptEmode hbl hmasks.entryLeft)).append
    (emitsListed_scriptCommand_wait hbl emittable_home .tLong)).append emitsListed_nil

end Blocks

theorem emitsListed_operationParts {i : Instr} {s : State.Over E} (hi : i.isOperation = true) (hstart : i ≠ .start)
    (hs : s.Legal) (hflags : s.cfg.flags = FlagConstants.default) : ∀ part ∈ operationParts i s, EmitsListed part := by
  have ⟨_, _, _, _, hbl⟩ := hs
  have hone {script : List Act} (h : EmitsListed script) : ∀ part ∈ [script], EmitsListed part :=
    List.forall_mem_singleton.mpr h
  have hcommand {c : Byte} (hc : Emittable c) : EmitsListed (scriptCommand s.bl c) := emitsListed_scriptCommand hbl hc
  have hdctl {bl v : Byte} (hbl : bl = 0x00 ∨ bl = 0x08) (hpart : scriptDctl bl v ∈ operationParts i s) :
      EmitsListed (scriptDctl bl v) := emitsListed_dctl_part hbl hs hpart
  have hemode {v : Byte} (hpart : scriptEmode s.bl v ∈ operationParts i s) : EmitsListed (scriptEmode s.bl v) :=
    emitsListed_emode_part hbl hs hpart
  cases i with
  | start => exact absurd rfl hstart
  | stop =>
    simp only [operationParts, List.forall_mem_cons]
    exact ⟨emitsListed_scriptCommand_wait hbl emittable_clear _, emitsListed_backlight (.inl rfl),
      hdctl (.inl rfl) (by simp [operationParts]), hdctl (.inl rfl) (by simp [operationParts]), nofun⟩
  | clear => exact hone (emitsListed_scriptCommand_wait hbl emittable_clear _)
  | home => exact hone (emitsListed_scriptCommand_wait hbl emittable_home _)
  | setCursor col row => exact hone (hcommand (emittable_setDdramAddr _))
  | scrollLeft => exact hone (hcommand (emittable_scrollLeft hflags))
  | scrollRight => exact hone (hcommand (emittable_scrollRight hflags))
  | displayOn | displayOff | cursorOn | cursorOff | blinkOn | blinkOff =>
    exact hone (hdctl hbl (List.mem_cons_self ..))
  | leftToRight | rightToLeft | autoscrollOn | autoscrollOff =>
    exact hone (hemode (List.mem_cons_self ..))
  | backlightOn => exact hone (emitsListed_backlight (.inr rfl))
  | backlightOff => exact hone (emitsListed_backlight (.inl rfl))
  | writeChar byte => exact hone (emitsListed_scriptData hbl byte)
  | print text => exact hone (emitsListed_scriptDataList hbl text)
  | createChar slot rows =>
    exact hone ((hcommand (emittable_createCharCommand slot)).append (emitsListed_scriptDataList hbl rows))
  | _ => cases hi

/-- The bytes from the start of any part to the end of the last, in START without its nine raw bytes (R97). -/
theorem emitsListed_rest {i : Instr} {s : State.Over E} (hi : i.isOperation = true) (hs : s.Legal)
    (hflags : s.cfg.flags = FlagConstants.default) {rest : List (List Act)} (hrest : rest <:+ operationParts i s) :
    ∃ script, (putBytes rest.flatten).drop (rawBytes i) = putBytes script ∧ EmitsListed script := by
  by_cases hstart : i = .start
  · subst hstart
    obtain rfl | hrest := List.suffix_cons_iff.mp hrest
    · obtain ⟨hw, -, -, -, hbl⟩ := hs
      refine ⟨startClosing s.cfg s.bl, ?_, emitsListed_startClosing hbl hw hflags⟩
      rw [List.flatten_singleton, putBytes_scriptStart]
      rfl
    · rw [List.suffix_nil.mp hrest]
      exact ⟨[], rfl, emitsListed_nil⟩
  · rw [rawBytes_of_ne_start hstart]
    exact ⟨rest.flatten, rfl, emitsListed_flatten fun part hpart =>
      emitsListed_operationParts hi hstart hs hflags part (hrest.mem hpart)⟩

/-- Settles O49: each run between two failures is the front of some last parts of the operation, and a receiver reads their
values in front of the place where it breaks off. -/
theorem commandBytesSentAreEmittable : Obligations.CommandBytesSentAreEmittable := by
  intro i s t hi hs hflags h
  obtain ⟨evs, htrace, hruns⟩ := execAt_succeededRuns (exec_eq_execAt i s ▸ h)
  refine ⟨evs, htrace, fun run hrun c hc => ?_⟩
  obtain ⟨rest, hrest, hprefix⟩ := hruns run hrun
  obtain ⟨script, hbytes, hscript⟩ := emitsListed_rest hi hs hflags hrest
  exact hscript.emittable (hbytes ▸ hprefix.drop (rawBytes i)) hc

end Sys2Proof.Machine
end

section
/-! PROOFS. The statements of 40_transfer_layers.md. PULSE, NIBBLE and SEND follow their scripts (`pulse_follows`,
`send_follows`); the backlight bit is read off the bytes of the parts that are played (`writes_foldl_playPart`) and off BL as
the instruction leaves it. -/

namespace Sys2Proof.Machine

variable {E : Type}

/-! ## A pulse and a send (R122 to R128) -/

/-- Settles O12: a value with bits 3 to 1 clear is all nibble and register-select, and NIBBLE is PULSE. -/
theorem pulseWritesHighThenLow : Obligations.PulseWritesHighThenLow := by
  intro E v s hv
  have hpulse : (pulse v s).played = s.play (scriptPulse s.bl v) := (pulse_follows hv).plays s
  exact ⟨hpulse, hpulse⟩

/-- Settles O13: COMMAND and DATA are SEND with register-select 0 and 1. -/
theorem sendWritesHighNibbleFirst : Obligations.SendWritesHighNibbleFirst := by
  intro E v s
  have hcommand : (command v s).played = s.play (scriptSend s.bl v 0x00) := (command_follows v).plays s
  have hdata : (data v s).played = s.play (scriptSend s.bl v 0x01) := (data_follows v).plays s
  exact ⟨hcommand, hdata, hcommand, hdata⟩

/-! ## The bytes that are written of those in the scripts (R18, R156) -/

/-- The events `evs` were added to a trace, and their bytes are some of `bytes`, in order: none of them only if there are
none. -/
structure Writes (before : List (Event E)) (bytes : List Byte) (evs after : List (Event E)) : Prop where
  trace : after = before ++ evs
  among : (writtenBytes evs).Sublist bytes
  silent : writtenBytes evs = [] → bytes = []

theorem Writes.refl (es : List (Event E)) : Writes es [] [] es :=
  ⟨(List.append_nil es).symm, List.Sublist.refl [], id⟩

theorem Writes.trans {es es' es'' evs evs' : List (Event E)} {xs ys : List Byte} (h : Writes es xs evs es')
    (h' : Writes es' ys evs' es'') : Writes es (xs ++ ys) (evs ++ evs') es'' where
  trace := by rw [h'.trace, h.trace, List.append_assoc]
  among := by rw [writtenBytes_append]; exact h.among.append h'.among
  silent := by
    rw [writtenBytes_append, List.append_eq_nil_iff, List.append_eq_nil_iff]
    exact And.imp h.silent h'.silent

/-- The first byte of a script is written, whatever is answered; the others as far as the script is played. -/
theorem writes_play (script : List Act) (s : State.Over E) :
    ∃ evs, Writes s.trace (putBytes script) evs (s.play script).1.trace := by
  induction script generalizing s with
  | nil => exact ⟨[], .refl s.trace⟩
  | cons a as ih =>
    cases a with
    | put d =>
      simp only [State.Over.play]
      cases s.nextAnswer with
      | ok =>
        obtain ⟨evs, h⟩ := ih (s.recordWrite d .ok)
        exact ⟨.write s.cfg.addr d .ok :: evs, by simpa using h.trace, h.among.cons_cons d, nofun⟩
      | fail e => exact ⟨[.write s.cfg.addr d (.fail e)], rfl, (List.nil_sublist _).cons_cons d, nofun⟩
    | wait t =>
      obtain ⟨evs, h⟩ := ih (s.recordDelay t)
      exact ⟨.delay t :: evs, by simpa [State.Over.play] using h.trace, h.among, h.silent⟩
    | setPhase p => exact ih (s.setPhase p)
    | setFunc v => exact ih (s.setFunc v)
    | setDctl v => exact ih (s.setDctl v)
    | setEmode v => exact ih (s.setEmode v)
    | setBl v => exact ih (s.setBl v)

theorem writes_foldl_playPart (parts : List (List Act)) (s : State.Over E) :
    ∃ evs, Writes s.trace (putBytes parts.flatten) evs (parts.foldl State.Over.playPart s).trace := by
  induction parts generalizing s with
  | nil => exact ⟨[], .refl s.trace⟩
  | cons part parts ih =>
    obtain ⟨evs, h⟩ := writes_play part s
    obtain ⟨evs', h'⟩ := ih (s.playPart part)
    rw [List.flatten_cons, putBytes_append]
    exact ⟨evs ++ evs', h.trans h'⟩

/-- STOP plays its first part and then, whatever failed, the other three (R156). -/
theorem writes_stop (s : State.Over E) : ∃ first later middle,
    Writes s.trace (putBytes (scriptCommand s.bl 0x01 ++ [.wait .tLong])) first middle ∧
      Writes middle (putBytes (operationParts .stop s).tail.flatten) later
        (s.playParts (operationParts .stop s)).trace := by
  obtain ⟨first, hfirst⟩ := writes_play (scriptCommand s.bl 0x01 ++ [.wait .tLong]) (s.setErrs [])
  obtain ⟨later, hlater⟩ := writes_foldl_playPart (operationParts .stop s).tail
    ((s.setErrs []).playPart (scriptCommand s.bl 0x01 ++ [.wait .tLong]))
  exact ⟨first, later, _, hfirst, hlater⟩

/-! ## The backlight bit (R121, R158) -/

theorem carries_flatten {bl : Byte} {parts : List (List Act)} (h : ∀ part ∈ parts, Carries bl part) :
    Carries bl parts.flatten := by
  induction parts with
  | nil => exact nofun
  | cons part parts ih =>
    obtain ⟨hpart, hparts⟩ := List.forall_mem_cons.mp h
    exact hpart.append (ih hparts)

theorem backlight_and_mask {bl : Byte} (hbl : bl = 0x00 ∨ bl = 0x08) : bl &&& 0x0A = bl := by
  obtain rfl | rfl := hbl <;> rfl

/-- Of bytes that carry the flag in bits 3 and 1, those written have it in bit 3. -/
theorem Writes.backlight {es es' evs : List (Event E)} {script : List Act} {bl : Byte}
    (h : Writes es (putBytes script) evs es') (hscript : Carries bl script) (hbl : bl = 0x00 ∨ bl = 0x08) :
    ∀ d ∈ writtenBytes evs, d &&& 0x08 = bl := by
  intro d hd
  calc d &&& 0x08 = d &&& 0x0A &&& 0x08 := (BitVec.and_assoc d 0x0A 0x08).symm
    _ = bl &&& 0x08 := by rw [hscript d (h.among.subset hd)]
    _ = bl := by obtain rfl | rfl := hbl <;> rfl

/-- STOP writes BL in its second part and in none after it (R156). -/
theorem playParts_stop_bl (s : State.Over E) : (s.playParts (operationParts .stop s)).bl = 0x00 := by
  simp only [State.Over.playParts, operationParts, List.foldl_cons, List.foldl_nil, State.playPart_scriptDctl,
    State.playPart_setBl]

/-- The parts of STOP after the first carry the backlight switched off (R158). -/
theorem carries_stop_tail (s : State.Over E) : Carries 0x00 (operationParts .stop s).tail.flatten := by
  have hoff : Carries 0x00 [.setBl 0x00, .put 0x00] := List.forall_mem_singleton.mpr rfl
  have hcommand (c : Byte) : Carries 0x00 (scriptCommand 0x00 c) := carries_scriptCommand rfl c
  exact hoff.append ((hcommand _).append ((hcommand _).append nofun))

/-- Every instruction but STOP has the BL that it leaves in the bytes of its parts: a backlight operation writes BL before its
one byte (R193), any other leaves BL alone. -/
theorem carries_of_ne_stop {i : Instr} {s t : State.Over E} (hi : i ≠ .stop) (hs : s.bl = 0x00 ∨ s.bl = 0x08)
    (h : execAt i s = .next t) : ∀ part ∈ operationParts i s, Carries t.bl part := by
  have hbacklight {v : Byte} (hv : v &&& 0x0A = v) (ht : t = s.playParts [[.setBl v, .put v]]) :
      ∀ part ∈ [[Act.setBl v, Act.put v]], Carries t.bl part := by
    have hbl : t.bl = v := by rw [ht]; exact (State.playPart_setBl v (s.setErrs [])).1
    rw [hbl]
    exact List.forall_mem_singleton.mpr (List.forall_mem_singleton.mpr hv)
  obtain ⟨-, -, ht⟩ := execAt_next h
  cases i with
  | stop => exact absurd rfl hi
  | backlightOn | backlightOff => exact hbacklight rfl ht
  | _ =>
    rw [execAt_bl (by simp [blWriters]) h]
    exact carries_operationParts (by simp [blWriters]) (backlight_and_mask hs)

/-- Settles O42: the first part of STOP carries the BL it starts with, and all that any instruction plays otherwise carries
the BL it leaves. -/
theorem everyByteCarriesTheBacklight : Obligations.EveryByteCarriesTheBacklight := by
  intro i s t hs h
  replace h : execAt i s = .next t := exec_eq_execAt i s ▸ h
  have ⟨_, _, _, _, hold⟩ := hs
  have ⟨_, _, _, _, hnew⟩ := execAt_legal hs h
  obtain ⟨-, -, rfl⟩ := execAt_next h
  by_cases hi : i = .stop
  · subst hi
    obtain ⟨first, later, middle, hfirst, hlater⟩ := writes_stop s
    have hclear : Carries s.bl (scriptCommand s.bl 0x01 ++ [.wait .tLong]) :=
      carries_scriptCommand_wait (backlight_and_mask hold) _ _
    have hdark : ∀ d ∈ writtenBytes later, d &&& 0x08 = 0x00 := hlater.backlight (carries_stop_tail s) (.inl rfl)
    exact ⟨first, later, (hfirst.trans hlater).trace, hfirst.backlight hclear hold, playParts_stop_bl s ▸ hdark,
      fun _ => ⟨mt hfirst.silent nofun, mt hlater.silent nofun⟩, fun hne => absurd rfl hne⟩
  · obtain ⟨evs, hevs⟩ := writes_foldl_playPart (operationParts i s) (s.setErrs [])
    have hparts := carries_flatten (carries_of_ne_stop hi hold h)
    exact ⟨[], evs, hevs.trace, nofun, hevs.backlight hparts hnew, fun hstop => absurd hstop hi, fun _ => rfl⟩

end Sys2Proof.Machine
end

section
/-! PROOFS. The statements of 41_lifecycle.md. An admitted instruction plays its parts (`execAt_of_admitted`); START is one
part, described for a run to its end by its register writes (`State.play_eq_foldl_act`) and its events
(`State.play_of_succeeds`, `Observed`), and for a run that a failure ends by its place before the last entry
(`State.play_phase_of_failure`); the parts of STOP are four operations (`attempt_setErrs`). -/

namespace Sys2Proof.Machine

variable {E : Type}

/-! ## Admitted instructions complete (R155, R234) -/

/-- The converse of `execAt_next`: nothing else is asked of the state. -/
theorem execAt_of_admitted {i : Instr} {s : State.Over E} (hw : s.cfg.wellFormed = true)
    (hstart : i = .start → s.phase = .uninitialized) : execAt i s = .next (s.playParts (operationParts i s)) := by
  by_cases hi : i = .start
  · subst hi
    rw [execStart_eq, guardConfiguration_of_wellFormed hw, if_pos (hstart rfl)]
  · rw [execAt_of_ne_start hi, guardConfiguration_of_wellFormed hw]

theorem State.playPart_errs (s : State.Over E) (script : List Act) :
    (s.playPart script).errs = s.errs ++ (s.play script).2.toList := rfl

/-- Each part adds at most one error. -/
theorem State.foldl_playPart_errs_length_le (parts : List (List Act)) (s : State.Over E) :
    (parts.foldl State.Over.playPart s).errs.length ≤ s.errs.length + parts.length := by
  induction parts generalizing s with
  | nil => exact Nat.le_refl _
  | cons part parts ih =>
    have hrest := ih (s.playPart part)
    have hpart : (s.play part).2.toList.length ≤ 1 := Option.length_toList_le
    rw [State.playPart_errs, List.length_append] at hrest
    rw [List.foldl_cons, List.length_cons]
    omega

theorem State.playParts_errs_length_le (parts : List (List Act)) (s : State.Over E) :
    (s.playParts parts).errs.length ≤ parts.length := by
  simpa [State.Over.playParts] using State.foldl_playPart_errs_length_le parts (s.setErrs [])

theorem operationParts_length (i : Instr) (s : State.Over E) :
    (operationParts i s).length = if i = .stop then 4 else 1 := by
  split
  · next hi => subst hi; rfl
  · next hi =>
    obtain ⟨script, hscript⟩ := operationParts_eq_singleton hi s
    rw [hscript, List.length_singleton]

/-- Settles O35: an admitted instruction plays its parts, and each part adds at most one error. -/
theorem everyAdmittedInstructionCompletes : Obligations.EveryAdmittedInstructionCompletes := by
  intro i s hw hstart
  refine ⟨_, (exec_eq_execAt i s).trans (execAt_of_admitted hw hstart), ?_⟩
  rw [← operationParts_length i s]
  exact State.playParts_errs_length_le _ s

/-! ## START: its script (R140 to R154) -/

/-- The two selectors of the lifecycle operations (R102). -/
theorem selects_start_stop : selects 0x15 .start ∧ selects 0x16 .stop := by
  obtain ⟨-, -, -, -, -, -, -, -, -, -, -, -, -, -, -, -, hstart, hstop, -⟩ := selectorsNameTheOperations
  exact ⟨hstart, hstop⟩

theorem exec_start {s : State} (hw : s.cfg.wellFormed = true) (hphase : s.phase = .uninitialized) :
    exec .start s = .next (s.plays (scriptStart s.cfg s.bl)) := by
  rw [exec_eq_execAt, execAt_of_admitted hw fun _ => hphase, operationParts, State.playParts_singleton]

/-- Settles O27: the one part of START is `scriptStart`. -/
theorem startPlaysTheNineSteps : Obligations.StartPlaysTheNineSteps :=
  ⟨selects_start_stop.1, fun _ => exec_start⟩

/-- Settles O28: the phase is the one thing that START asks for beyond the configuration. -/
theorem startIsRefusedOutsideUninitialized : Obligations.StartIsRefusedOutsideUninitialized := by
  intro s hw hphase
  rw [exec_eq_execAt, execStart_eq, guardConfiguration_of_wellFormed hw, if_neg hphase]

/-! ## What START leaves (R151, R152, R268) -/

/-- A script that no failure ends has made all its entries. -/
theorem State.play_eq_foldl_act {script : List Act} {s : State.Over E} (h : (s.play script).2 = none) :
    (s.play script).1 = script.foldl State.Over.act s := by
  induction script generalizing s with
  | nil => rfl
  | cons a as ih =>
    rw [State.play_cons] at h ⊢
    cases hf : s.failureOf a with
    | none => rw [hf] at h; exact ih h
    | some e => rw [hf] at h; cases h

/-- A script that writes PHASE first and last, and does not come to its last entry, leaves PHASE as it wrote it first. -/
theorem State.play_phase_of_failure {steps : List Act} {p q : Phase} {s : State.Over E} {e : E}
    (hsteps : ∀ r, Act.setPhase r ∉ steps) (h : (s.play (Act.setPhase p :: steps ++ [Act.setPhase q])).2 = some e) :
    (s.play (Act.setPhase p :: steps ++ [Act.setPhase q])).1.phase = p := by
  have hphase : (s.play (Act.setPhase p :: steps)).1.phase = p :=
    State.play_preserves (P := fun u => u.phase = p) (script := steps)
      (fun a ha u hu => (State.act_phase (fun r heq => hsteps r (heq ▸ ha)) u).trans hu) (State.setPhase_phase s p)
  rw [State.play_append] at h ⊢
  cases hend : (s.play (Act.setPhase p :: steps)).2 with
  | none => rw [hend] at h; cases h
  | some e' => exact hphase

/-- R152: what the register writes of a whole START leave. -/
theorem State.play_scriptStart_of_done {c : DisplayConfig} {bl : Byte} {s : State.Over E}
    (h : (s.play (scriptStart c bl)).2 = none) :
    (s.play (scriptStart c bl)).1.phase = .ready ∧ (s.play (scriptStart c bl)).1.func = functionFlags c ∧
      (s.play (scriptStart c bl)).1.dctl = c.flags.displayOn ∧
      (s.play (scriptStart c bl)).1.emode = c.flags.entryLeft := by
  rw [State.play_eq_foldl_act h]
  simp [scriptStart, scriptPulse, scriptDctl, scriptEmode, scriptCommand, scriptSend, State.Over.act, functionFlags]

/-- The entries of START between its two writes of PHASE. -/
def startSteps (c : DisplayConfig) (bl : Byte) : List Act := (scriptStart c bl).tail.dropLast

theorem scriptStart_eq_startSteps (c : DisplayConfig) (bl : Byte) :
    scriptStart c bl = Act.setPhase .initializing :: startSteps c bl ++ [Act.setPhase .ready] := by
  simp [startSteps, scriptStart, scriptPulse, scriptDctl, scriptEmode, scriptCommand, scriptSend]

theorem not_setPhase_startSteps (c : DisplayConfig) (bl : Byte) (p : Phase) : .setPhase p ∉ startSteps c bl := by
  simp [startSteps, scriptStart, scriptPulse, scriptDctl, scriptEmode, scriptCommand, scriptSend]

/-- Settles O29: a run of the script to its end has made every register write of START; a failure comes before the last. -/
theorem startEndsReadyOrInitializing : Obligations.StartEndsReadyOrInitializing := by
  intro s hw hphase
  have hbl : (s.play (scriptStart s.cfg s.bl)).1.bl = s.bl :=
    State.play_bl ((startBody_follows (E := TErr)).keeps s.cfg s.bl) s
  refine ⟨_, exec_start hw hphase, ?_⟩
  simp only [State.Over.plays, State.setErrs_errs, State.setErrs_phase, State.setErrs_func, State.setErrs_dctl,
    State.setErrs_emode, State.setErrs_bl]
  refine ⟨hbl, ?_⟩
  cases hend : (s.play (scriptStart s.cfg s.bl)).2 with
  | none =>
    obtain ⟨hphase, hfunc, hdctl, hemode⟩ := State.play_scriptStart_of_done hend
    exact .inl ⟨rfl, hphase, hfunc, hdctl, hemode⟩
  | some e =>
    refine .inr ⟨⟨e, rfl⟩, ?_⟩
    rw [scriptStart_eq_startSteps] at hend ⊢
    exact State.play_phase_of_failure (not_setPhase_startSteps _ _) hend

/-! ## The function-set register (R146) -/

/-- Settles O30: with the default constants only LINE2 and DOTS5x10 are not zero. -/
theorem functionFlagsFollowRowsAndDots : Obligations.FunctionFlagsFollowRowsAndDots := by
  intro c _ hflags
  simp only [functionFlags, hflags]
  refine ⟨fun hrows hdots => ?_, fun hrows hdots => ?_, fun hrows => ?_⟩
  · rw [if_neg (by omega), if_neg (by omega)]; rfl
  · rw [if_neg (by omega), if_pos ⟨hrows, hdots⟩]; rfl
  · rw [if_pos hrows, if_neg (by omega)]; rfl

theorem functionFlags_cases {c : DisplayConfig} (hw : c.wellFormed = true) (hflags : c.flags = FlagConstants.default) :
    functionFlags c = 0x00 ∨ functionFlags c = 0x04 ∨ functionFlags c = 0x08 := by
  obtain ⟨hdots8, hdots10, hrows⟩ := functionFlagsFollowRowsAndDots c hw hflags
  simp only [DisplayConfig.wellFormed, Bool.and_eq_true, Bool.or_eq_true, decide_eq_true_eq, beq_iff_eq] at hw
  obtain ⟨⟨⟨hlow, -⟩, hdots⟩, -⟩ := hw
  obtain hone | hmore : c.rows = 1 ∨ 1 < c.rows := by omega
  · exact hdots.imp (hdots8 hone) fun h10 => .inl (hdots10 hone h10)
  · exact .inr (.inr (hrows hmore))

/-! ## The observation of a successful START (R153, R273) -/

/-- The events of a script whose writes all succeed. -/
def okEvents (addr : BusAddress) : List Act → List (Event E)
  | [] => []
  | .put d :: as => .write addr d .ok :: okEvents addr as
  | .wait t :: as => .delay t :: okEvents addr as
  | .setPhase _ :: as => okEvents addr as
  | .setFunc _ :: as => okEvents addr as
  | .setDctl _ :: as => okEvents addr as
  | .setEmode _ :: as => okEvents addr as
  | .setBl _ :: as => okEvents addr as

theorem okEvents_append (addr : BusAddress) (xs ys : List Act) :
    okEvents (E := E) addr (xs ++ ys) = okEvents addr xs ++ okEvents addr ys := by
  induction xs with
  | nil => rfl
  | cons a as ih => cases a <;> simp [okEvents, ih]

/-- A script runs to its end when as many writes succeed as it has, and adds its events. -/
theorem State.play_of_succeeds {script : List Act} {s : State.Over E} (h : s.succeeds (putCount script)) :
    (s.play script).2 = none ∧ (s.play script).1.trace = s.trace ++ okEvents s.cfg.addr script := by
  induction script generalizing s with
  | nil => exact ⟨rfl, (List.append_nil _).symm⟩
  | cons a as ih =>
    cases a with
    | put d =>
      have hnext : s.nextAnswer = .ok := (State.answerAt_zero s).symm.trans (h 0 (Nat.succ_pos _))
      have hrest : (s.recordWrite d .ok).succeeds (putCount as) := fun k hk =>
        (State.recordWrite_answerAt s d .ok k).trans (h (k + 1) (Nat.succ_lt_succ hk))
      simpa [State.Over.play, hnext, okEvents] using ih hrest
    | wait t => simpa [State.Over.play, okEvents] using ih (s := s.recordDelay t) h
    | setPhase p => exact ih (s := s.setPhase p) h
    | setFunc v => exact ih (s := s.setFunc v) h
    | setDctl v => exact ih (s := s.setDctl v) h
    | setEmode v => exact ih (s := s.setEmode v) h
    | setBl v => exact ih (s := s.setBl v) h

/-- The script, played without a failure when `before` ns have been waited, is observed as these bytes, each with the time
waited just before it, and `after` ns after the last (R19). -/
def Observed (before : Nat) (script : List Act) (waits : List (Nat × Byte)) (after : Nat) : Prop :=
  ∀ (E : Type) (addr : BusAddress),
    observe before (okEvents (E := E) addr script) = (waits.map (fun w => (w.1, w.2, .ok)), after)

theorem Observed.append {before middle after : Nat} {xs ys : List Act} {ws vs : List (Nat × Byte)}
    (hx : Observed before xs ws middle) (hy : Observed middle ys vs after) :
    Observed before (xs ++ ys) (ws ++ vs) after := by
  intro E addr
  rw [okEvents_append, observe_append, hx, hy, List.map_append]

theorem observed_wait (before : Nat) (t : Delay) : Observed before [.wait t] [] (before + t.minNs) := fun _ _ => rfl

/-- The time waited before the first byte of a pulse is whatever came before it, then T_PULSE and T_SETTLE (R122). -/
theorem observed_scriptPulse (before : Nat) (bl v : Byte) :
    Observed before (scriptPulse bl v) [(before, v ||| EN ||| bl), (450, v ||| bl)] 37000 := fun _ _ => rfl

/-- A command byte is two pulses, one for each of its nibbles (R125, R127). -/
theorem observed_scriptCommand (before : Nat) (bl : Byte) {c high low : Byte} (hhigh : c &&& 0xF0 = high)
    (hlow : (c <<< 4) &&& 0xF0 = low) :
    Observed before (scriptCommand bl c)
      [(before, high ||| EN ||| bl), (450, high ||| bl), (37000, low ||| EN ||| bl), (450, low ||| bl)] 37000 := by
  subst hhigh hlow
  have h := (observed_scriptPulse before bl ((c &&& 0xF0) ||| 0x00)).append
    (observed_scriptPulse 37000 bl (((c <<< 4) &&& 0xF0) ||| 0x00))
  simpa [scriptCommand, scriptSend, scriptPulse] using h

/-- The function-set byte's nibbles: the command's own bit, and FUNC moved up (R91, R92). -/
theorem functionSet_nibbles {f : Byte} (h : f = 0x00 ∨ f = 0x04 ∨ f = 0x08) :
    (0x20 ||| f) &&& 0xF0 = 0x20 ∧ ((0x20 ||| f) <<< 4) &&& 0xF0 = f <<< 4 := by
  obtain rfl | rfl | rfl := h <;> exact ⟨rfl, rfl⟩

theorem observed_startOpening (bl : Byte) : Observed 0 (startOpening bl)
    [(40000000, bl), (1000000000, 0x34 ||| bl), (450, 0x30 ||| bl), (4537000, 0x34 ||| bl), (450, 0x30 ||| bl),
     (4537000, 0x34 ||| bl), (450, 0x30 ||| bl), (187000, 0x24 ||| bl), (450, 0x20 ||| bl)] 37000 := by
  have hidle : Observed 0 [.setPhase .initializing, .wait .tPower, .put bl, .wait .tIdle] [(40000000, bl)] 1000000000 :=
    fun _ _ => rfl
  have h3 (before : Nat) := observed_scriptPulse before bl 0x30
  exact ((((((hidle.append (h3 _)).append (observed_wait _ .tInit1)).append (h3 _)).append
    (observed_wait _ .tInit2)).append (h3 _)).append (observed_wait _ .tInit3)).append (observed_scriptPulse _ bl 0x20)

theorem observed_startClosing {c : DisplayConfig} (hw : c.wellFormed = true) (hflags : c.flags = FlagConstants.default)
    (bl : Byte) : Observed 37000 (startClosing c bl)
    [(37000, 0x24 ||| bl), (450, 0x20 ||| bl),
     (37000, (functionFlags c <<< 4) ||| 0x04 ||| bl), (450, (functionFlags c <<< 4) ||| bl),
     (37000, 0x04 ||| bl), (450, 0x00 ||| bl), (37000, 0xC4 ||| bl), (450, 0xC0 ||| bl),
     (37000, 0x04 ||| bl), (450, 0x00 ||| bl), (37000, 0x14 ||| bl), (450, 0x10 ||| bl),
     (2037000, 0x04 ||| bl), (450, 0x00 ||| bl), (37000, 0x64 ||| bl), (450, 0x60 ||| bl),
     (37000, 0x04 ||| bl), (450, 0x00 ||| bl), (37000, 0x24 ||| bl), (450, 0x20 ||| bl)] 2037000 := by
  obtain ⟨hhigh, hlow⟩ := functionSet_nibbles (functionFlags_cases hw hflags)
  have hfunc : Observed 37000 (scriptCommand bl (0x20 ||| functionFlags c)) _ _ := observed_scriptCommand _ bl hhigh hlow
  have hdctl : Observed 37000 (scriptDctl bl 0x04) _ _ := observed_scriptCommand (c := 0x0C) 37000 bl rfl rfl
  have hclear : Observed 37000 (scriptCommand bl 0x01) _ _ := observed_scriptCommand _ bl rfl rfl
  have hemode : Observed 2037000 (scriptEmode bl 0x02) _ _ := observed_scriptCommand (c := 0x06) 2037000 bl rfl rfl
  have hhome : Observed 37000 (scriptCommand bl 0x02) _ _ := observed_scriptCommand _ bl rfl rfl
  have hready : Observed 2037000 [.setPhase .ready] [] 2037000 := fun _ _ => rfl
  rw [startClosing, hflags]
  exact ((((hfunc.append hdctl).append (hclear.append (observed_wait _ .tLong))).append hemode).append
    (hhome.append (observed_wait _ .tLong))).append hready

/-- FUNC is written between the two halves and is no event. -/
theorem observed_scriptStart {c : DisplayConfig} {bl : Byte} {ws vs : List (Nat × Byte)} {middle after : Nat}
    (hopening : Observed 0 (startOpening bl) ws middle) (hclosing : Observed middle (startClosing c bl) vs after) :
    Observed 0 (scriptStart c bl) (ws ++ vs) after := by
  rw [scriptStart_eq]
  exact hopening.append (ys := .setFunc (functionFlags c) :: startClosing c bl) hclosing

/-- Settles O31: a START whose writes all succeed adds the events of its script, and these are observed block by block. -/
theorem successfulStartIsObservedWhole : Obligations.SuccessfulStartIsObservedWhole := by
  intro s hw hflags hphase hok
  have hcount : putCount (scriptStart s.cfg s.bl) = 29 := by
    simpa [operationParts, writeCount] using putCount_operationParts .start s
  obtain ⟨hend, htrace⟩ := State.play_of_succeeds (hcount ▸ hok)
  have hobserved := observed_scriptStart (observed_startOpening s.bl) (observed_startClosing hw hflags s.bl)
  refine ⟨_, okEvents s.cfg.addr (scriptStart s.cfg s.bl), exec_start hw hphase, ?_, ?_, ?_⟩
  · rw [State.Over.plays, hend]; rfl
  · rw [State.Over.plays, State.setErrs_trace, htrace]
  · simpa using hobserved TErr s.cfg.addr

/-! ## STOP (R156 to R158) -/

theorem perform_next {body : State.Over E → Result E} {s t : State.Over E} (h : perform body s = .next t) :
    s.cfg.wellFormed = true ∧ endOperation (body s) = t := by
  obtain ⟨hw, hend⟩ := guardConfiguration_next h
  exact ⟨hw, Host.Outcome.next.inj hend⟩

/-- A part of STOP does what the operation does by itself, and adds the operation's errors to those before it; the body's
script is chosen without regard to the response. -/
theorem attempt_setErrs {body : State.Over E → Result E} {s : State.Over E} {script : List Act}
    (h : ∀ errs, (body (s.setErrs errs)).played = (s.setErrs errs).play script) (errs : List E) :
    attempt body (s.setErrs errs) = (endOperation (body s)).setErrs (errs ++ (endOperation (body s)).errs) := by
  have hself : (body s).played = s.play script := h s.errs
  rw [attempt_eq_playPart (h errs), endOperation_eq_played, hself, State.Over.playPart, State.setErrs_play]
  rfl

/-- Settles O32: each part of STOP is its operation by itself. -/
theorem stopIsItsFourParts : Obligations.StopIsItsFourParts := by
  intro s t₁ t₂ t₃ t₄ h₁ h₂ h₃ h₄
  obtain ⟨hw, rfl⟩ := perform_next (body := clearBody) h₁
  obtain ⟨-, rfl⟩ := perform_next (body := backlightOffBody) h₂
  obtain ⟨-, rfl⟩ := perform_next (body := cursorOffBody) h₃
  obtain ⟨-, rfl⟩ := perform_next (body := displayOffBody) h₄
  have hclear (s : State) := attempt_setErrs (body := clearBody) (s := s)
    (script := scriptCommand s.bl 0x01 ++ [.wait .tLong]) fun errs => clearBody_follows.plays (s.setErrs errs)
  have hbacklight (s : State) := attempt_setErrs (body := backlightOffBody) (s := s)
    (script := [.setBl 0x00, .put 0x00]) fun errs => switchBacklight_played 0x00 (s.setErrs errs)
  have hcursor (s : State) := attempt_setErrs (body := cursorOffBody) (s := s)
    (script := scriptDctl s.bl (clearFlag s.dctl s.cfg.flags.cursorOn)) fun errs =>
    emitDisplayControl_played _ (s.setErrs errs)
  have hdisplay (s : State) := attempt_setErrs (body := displayOffBody) (s := s)
    (script := scriptDctl s.bl (clearFlag s.dctl s.cfg.flags.displayOn)) fun errs =>
    emitDisplayControl_played _ (s.setErrs errs)
  have hstop : exec .stop s = .next (stopBody s) := guardConfiguration_of_wellFormed hw _
  rw [hstop, stopBody, hclear, hbacklight, hcursor, hdisplay, List.nil_append]

theorem playParts_stop_dctl (s : State.Over E) : (s.playParts (operationParts .stop s)).dctl =
    clearFlag (clearFlag s.dctl s.cfg.flags.cursorOn) s.cfg.flags.displayOn := by
  simp only [State.Over.playParts, operationParts, List.foldl_cons, List.foldl_nil, State.playPart_scriptDctl]

/-- The three display flags are the three bits of a legal DCTL (R26, R92), so blink is what is left without the others. -/
theorem clearFlag_cursorOn_displayOn {c : DisplayConfig} (hw : c.wellFormed = true) {v : Byte} (hv : v &&& 0xF8 = 0x00) :
    clearFlag (clearFlag v c.flags.cursorOn) c.flags.displayOn = v &&& c.flags.blinkOn := by
  have hbits : ∀ d ∈ [0x01#8, 0x02#8, 0x04#8], ∀ k ∈ [0x01#8, 0x02#8, 0x04#8], d ≠ k →
      ∀ b ∈ [0x01#8, 0x02#8, 0x04#8], d ≠ b → k ≠ b → 0x07 &&& (~~~k &&& ~~~d) = b := by decide
  simp only [DisplayConfig.wellFormed, FlagConstants.wellFormed, Bool.and_eq_true, List.contains_iff_mem,
    bne_iff_ne] at hw
  obtain ⟨-, ⟨⟨⟨⟨⟨⟨⟨⟨⟨hd, hk⟩, hb⟩, hdk⟩, hdb⟩, hkb⟩, -⟩, -⟩, -⟩, -⟩, -⟩ := hw
  have hlow : v = v &&& 0x07 := by
    calc v = v &&& (0xF8 ||| 0x07) := BitVec.and_allOnes.symm
      _ = v &&& 0x07 := by rw [BitVec.and_or_distrib_left, hv]; exact BitVec.zero_or
  rw [← hbits _ hd _ hk hdk _ hb hdb hkb, ← BitVec.and_assoc, ← hlow, clearFlag, clearFlag, BitVec.and_assoc]

/-- Settles O33: BL and DCTL as the parts of STOP write them, and no part writes another register. -/
theorem stopEndsDark : Obligations.StopEndsDark := by
  refine ⟨selects_start_stop.2, fun s ⟨hw, _, hdctl, _⟩ => ?_⟩
  have h : execAt .stop s = .next (s.playParts (operationParts .stop s)) := execAt_of_admitted hw nofun
  refine ⟨_, (exec_eq_execAt _ s).trans h, playParts_stop_bl s, ?_, execAt_func (by decide) h,
    execAt_emode (by decide) h, execAt_phase (by decide) h, State.playParts_errs_length_le _ s⟩
  rw [playParts_stop_dctl, clearFlag_cursorOn_displayOn hw hdctl]

end Sys2Proof.Machine
end

section
/-! PROOFS. The statements of 42_display_ops.md. Each operation is one part (`exec_eq_plays`); what is left is the byte that
SETCURSOR sends: the clamped row is an index of the row base table (`clampRow_lt_length`), and the opcode bit takes the
place of bit 7 of the sum (`toNat_setCursorCommand`). -/

namespace Sys2Proof.Machine

/-! ## CLEAR, HOME and the scrolls (R160, R162, R168, R169) -/

/-- Settles O14: the one part of each is its command byte, then T_LONG. -/
theorem clearAndHomeSendThenSettle : Obligations.ClearAndHomeSendThenSettle := by
  obtain ⟨hclear, hhome, -⟩ := selectorsNameTheOperations
  exact ⟨hclear, hhome, fun s hw => ⟨exec_eq_plays nofun hw rfl, exec_eq_plays nofun hw rfl⟩⟩

/-- Settles O15: the one part of each is its command byte. -/
theorem scrollSendsItsCommand : Obligations.ScrollSendsItsCommand := by
  obtain ⟨-, -, -, -, -, -, -, -, hleft, hright, -⟩ := selectorsNameTheOperations
  exact ⟨hleft, hright, fun s hw => ⟨exec_eq_plays nofun hw rfl, exec_eq_plays nofun hw rfl⟩⟩

/-! ## The row of SETCURSOR (R165) -/

theorem rows_of_wellFormed {c : DisplayConfig} (h : c.wellFormed = true) : 1 ≤ c.rows ∧ c.rows ≤ 4 := by
  simp only [DisplayConfig.wellFormed, Bool.and_eq_true, decide_eq_true_eq] at h
  obtain ⟨⟨hrows, -⟩, -⟩ := h
  exact hrows

theorem clampRow_lt_length {c : DisplayConfig} (h : c.wellFormed = true) (row : Byte) :
    clampRow c.rows row < rowBaseTable.length := by
  obtain ⟨hpos, hle⟩ := rows_of_wellFormed h
  have hlength : rowBaseTable.length = 4 := rfl
  rw [clampRow_eq_min]
  omega

/-- A row that the clamp meets acts as the last row, which fits a byte. -/
theorem clampRow_of_rows_le {rows : Nat} {row : Byte} (h : rows ≤ row.toNat) :
    clampRow rows row = clampRow rows (BitVec.ofNat 8 (rows - 1)) := by
  have hlt : rows - 1 < 2 ^ 8 := by omega
  have hlast : (BitVec.ofNat 8 (rows - 1)).toNat = rows - 1 := by rw [BitVec.toNat_ofNat, Nat.mod_eq_of_lt hlt]
  rw [clampRow_eq_min, clampRow_eq_min, hlast]
  omega

theorem exec_setCursor {s : State} (hw : s.cfg.wellFormed = true) (col row : Byte) :
    exec (.setCursor col row) s = .next (s.plays (scriptCommand s.bl (setCursorCommand s.cfg.rows col row))) :=
  exec_eq_plays nofun hw rfl

/-- Settles O17: the clamp is the minimum with ROWS - 1, and the byte sent depends on the row by its clamp only. -/
theorem setCursorClampsTheRow : Obligations.SetCursorClampsTheRow := by
  refine fun s col row hw => ⟨fun hrow => ?_, fun hrow => if_pos hrow, clampRow_lt_length hw row⟩
  simp only [exec_setCursor hw, setCursorCommand, ddramAddress, clampRow_of_rows_le hrow]

/-! ## The byte of SETCURSOR (R164, R166; D9) -/

/-- R95: the four entries of the row base table. -/
theorem rowBase_cases {r : Nat} (h : r < rowBaseTable.length) :
    r = 0 ∧ (rowBase r).toNat = 0x00 ∨ r = 1 ∧ (rowBase r).toNat = 0x40 ∨ r = 2 ∧ (rowBase r).toNat = 0x14 ∨
      r = 3 ∧ (rowBase r).toNat = 0x54 := by
  have hlength : rowBaseTable.length = 4 := rfl
  obtain rfl | rfl | rfl | rfl : r = 0 ∨ r = 1 ∨ r = 2 ∨ r = 3 := by omega
  all_goals decide

/-- The opcode bit of SETDDRAMADDR takes the place of bit 7, so the other seven are the address. -/
theorem toNat_setDdramAddr_or (a : Byte) : (SETDDRAMADDR ||| a).toNat = 128 + a.toNat % 128 := by
  revert a; decide

theorem toNat_setCursorCommand (rows : Nat) (col row : Byte) :
    (setCursorCommand rows col row).toNat = 128 + (col.toNat + (rowBase (clampRow rows row)).toNat) % 128 := by
  rw [setCursorCommand, toNat_setDdramAddr_or, ddramAddress, BitVec.toNat_add, Nat.mod_mod_of_dvd _ (by decide)]

/-- Settles O16: the base is the table's entry at the clamped row. -/
theorem setCursorSendsTheAddress : Obligations.SetCursorSendsTheAddress := fun s col row hw =>
  ⟨clampRow s.cfg.rows row, (rowBase (clampRow s.cfg.rows row)).toNat, setCursorCommand s.cfg.rows col row, rfl,
    rowBase_cases (clampRow_lt_length hw row), toNat_setCursorCommand _ col row, exec_setCursor hw col row⟩

end Sys2Proof.Machine
end

section
/-! PROOFS. The statements of 43_mode_ops.md. Each operation is one part (`exec_eq_plays`): the write of one register, then
bus writes and delays. The registers after it are therefore those of the one write, whatever failed (`sameRegisters_act`),
and issuing it again writes the value that stands there already (`ReissueKeeps.of_write`). -/

namespace Sys2Proof.Machine

variable {E : Type}

/-! ## What each operation plays (R180 to R195) -/

/-- Settles O18: the one part of each is the write of DCTL, then the whole register sent. -/
theorem displayControlOperationsResendDctl : Obligations.DisplayControlOperationsResendDctl := by
  obtain ⟨-, -, hdisplayOn, hdisplayOff, hcursorOn, hcursorOff, hblinkOn, hblinkOff, -⟩ := selectorsNameTheOperations
  exact ⟨hdisplayOn, hdisplayOff, hcursorOn, hcursorOff, hblinkOn, hblinkOff, fun s hw =>
    ⟨exec_eq_plays nofun hw rfl, exec_eq_plays nofun hw rfl, exec_eq_plays nofun hw rfl, exec_eq_plays nofun hw rfl,
      exec_eq_plays nofun hw rfl, exec_eq_plays nofun hw rfl⟩⟩

/-- Settles O19: the one part of each is the write of EMODE, then the whole register sent. -/
theorem entryModeOperationsResendEmode : Obligations.EntryModeOperationsResendEmode := by
  obtain ⟨-, -, -, -, -, -, -, -, -, -, hleft, hright, hscrollOn, hscrollOff, -⟩ := selectorsNameTheOperations
  exact ⟨hleft, hright, hscrollOn, hscrollOff, fun s hw => ⟨exec_eq_plays nofun hw rfl, exec_eq_plays nofun hw rfl,
    exec_eq_plays nofun hw rfl, exec_eq_plays nofun hw rfl⟩⟩

/-- Settles O20: the one part of each is the write of BL, then the byte of the new BL. -/
theorem backlightOperationsWriteOneByte : Obligations.BacklightOperationsWriteOneByte := by
  obtain ⟨-, -, -, -, -, -, -, -, -, -, -, -, -, -, hon, hoff, -⟩ := selectorsNameTheOperations
  exact ⟨hon, hoff, fun s hw => ⟨exec_eq_plays nofun hw rfl, exec_eq_plays nofun hw rfl⟩⟩

/-! ## On sets and off clears, so twice is once (R180; D7) -/

theorem setFlag_setFlag (x flag : Byte) : setFlag (setFlag x flag) flag = setFlag x flag := by
  rw [setFlag, setFlag, BitVec.or_assoc, BitVec.or_self]

theorem clearFlag_clearFlag (x flag : Byte) : clearFlag (clearFlag x flag) flag = clearFlag x flag := by
  rw [clearFlag, clearFlag, BitVec.and_assoc, BitVec.and_self]

/-! ## The registers after one register write and what is sent (R43) -/

theorem SameRegisters.trans {s t u : State.Over E} (h : SameRegisters s t) (h' : SameRegisters t u) :
    SameRegisters s u := by
  obtain ⟨hphase, hfunc, hdctl, hemode, hbl⟩ := h
  obtain ⟨hphase', hfunc', hdctl', hemode', hbl'⟩ := h'
  exact ⟨hphase'.trans hphase, hfunc'.trans hfunc, hdctl'.trans hdctl, hemode'.trans hemode, hbl'.trans hbl⟩

/-- After an instruction that writes one register first and then only sends, the registers are those of the write. -/
theorem sameRegisters_act {i : Instr} {s t : State.Over E} {a : Act} {rest : List Act}
    (hparts : operationParts i s = [a :: rest]) (ha : s.failureOf a = none)
    (hrest : ∀ b ∈ rest, (∃ d, b = .put d) ∨ ∃ w, b = .wait w) (h : execAt i s = .next t) : SameRegisters (s.act a) t := by
  obtain ⟨-, -, rfl⟩ := execAt_next h
  obtain ⟨hregisters, -⟩ := State.play_keeps hrest (s.act a)
  rw [hparts, State.playParts_singleton, State.Over.plays, State.play_cons, ha]
  exact hregisters

/-- Run again, whatever either run's writes were answered, the instruction leaves the registers as the first run did. -/
def ReissueKeeps (E : Type) (i : Instr) : Prop :=
  ∀ s t u : State.Over E, execAt i s = .next t → execAt i t = .next u → SameRegisters t u

/-- An instruction that starts with a register write `a`, and whose write after a first run changes nothing. -/
theorem ReissueKeeps.of_write {i : Instr} (a : State.Over E → Act) {rest : State.Over E → List Act}
    (hparts : ∀ s, operationParts i s = [a s :: rest s]) (ha : ∀ s : State.Over E, s.failureOf (a s) = none)
    (hrest : ∀ s, ∀ b ∈ rest s, (∃ d, b = .put d) ∨ ∃ w, b = .wait w)
    (hagain : ∀ s t : State.Over E, t.cfg = s.cfg → SameRegisters (s.act (a s)) t → SameRegisters t (t.act (a t))) :
    ReissueKeeps E i := by
  intro s t u h h'
  have hfirst : SameRegisters (s.act (a s)) t := sameRegisters_act (hparts s) (ha s) (hrest s) h
  have hsecond : SameRegisters (t.act (a t)) u := sameRegisters_act (hparts t) (ha t) (hrest t) h'
  exact (hagain s t (execAt_cfg h) hfirst).trans hsecond

section Reissue

variable {i : Instr} {update : Byte → Byte → Byte} (hupdate : ∀ x flag, update (update x flag) flag = update x flag)
  (flag : DisplayConfig → Byte)
include hupdate

theorem reissueKeeps_of_dctl
    (hparts : ∀ s : State.Over E, operationParts i s = [scriptDctl s.bl (update s.dctl (flag s.cfg))]) :
    ReissueKeeps E i := by
  refine .of_write (fun s => .setDctl (update s.dctl (flag s.cfg))) hparts (fun _ => rfl)
    (fun s => playable_send s.bl _ 0x00) fun s t hcfg ⟨_, _, hdctl, _, _⟩ => ⟨rfl, rfl, ?_, rfl, rfl⟩
  have hwritten : t.dctl = update s.dctl (flag s.cfg) := hdctl
  show update t.dctl (flag t.cfg) = t.dctl
  rw [hwritten, hcfg, hupdate]

theorem reissueKeeps_of_emode
    (hparts : ∀ s : State.Over E, operationParts i s = [scriptEmode s.bl (update s.emode (flag s.cfg))]) :
    ReissueKeeps E i := by
  refine .of_write (fun s => .setEmode (update s.emode (flag s.cfg))) hparts (fun _ => rfl)
    (fun s => playable_send s.bl _ 0x00) fun s t hcfg ⟨_, _, _, hemode, _⟩ => ⟨rfl, rfl, rfl, ?_, rfl⟩
  have hwritten : t.emode = update s.emode (flag s.cfg) := hemode
  show update t.emode (flag t.cfg) = t.emode
  rw [hwritten, hcfg, hupdate]

end Reissue

/-- The backlight operations write a constant. -/
theorem reissueKeeps_of_bl {i : Instr} {v : Byte}
    (hparts : ∀ s : State.Over E, operationParts i s = [[.setBl v, .put v]]) : ReissueKeeps E i :=
  .of_write (fun _ => .setBl v) hparts (fun _ => rfl) (fun _ => by simp)
    fun _ _ _ ⟨_, _, _, _, hbl⟩ => ⟨rfl, rfl, rfl, rfl, hbl.symm⟩

/-- The twelve operations of 43_mode_ops.md. -/
def modeOperations : List Instr :=
  [.displayOn, .displayOff, .cursorOn, .cursorOff, .blinkOn, .blinkOff, .leftToRight, .rightToLeft, .autoscrollOn,
    .autoscrollOff, .backlightOn, .backlightOff]

theorem reissueKeeps_of_mem_modeOperations : ∀ i ∈ modeOperations, ReissueKeeps E i := by
  simp only [modeOperations, List.forall_mem_cons]
  exact ⟨reissueKeeps_of_dctl setFlag_setFlag (·.flags.displayOn) fun _ => rfl,
    reissueKeeps_of_dctl clearFlag_clearFlag (·.flags.displayOn) fun _ => rfl,
    reissueKeeps_of_dctl setFlag_setFlag (·.flags.cursorOn) fun _ => rfl,
    reissueKeeps_of_dctl clearFlag_clearFlag (·.flags.cursorOn) fun _ => rfl,
    reissueKeeps_of_dctl setFlag_setFlag (·.flags.blinkOn) fun _ => rfl,
    reissueKeeps_of_dctl clearFlag_clearFlag (·.flags.blinkOn) fun _ => rfl,
    reissueKeeps_of_emode setFlag_setFlag (·.flags.entryLeft) fun _ => rfl,
    reissueKeeps_of_emode clearFlag_clearFlag (·.flags.entryLeft) fun _ => rfl,
    reissueKeeps_of_emode setFlag_setFlag (·.flags.entryShiftIncrement) fun _ => rfl,
    reissueKeeps_of_emode clearFlag_clearFlag (·.flags.entryShiftIncrement) fun _ => rfl,
    reissueKeeps_of_bl fun _ => rfl, reissueKeeps_of_bl fun _ => rfl, nofun⟩

/-- Settles O21: each of the twelve starts with the write of its register, by a flag set or cleared or by a constant, and
the same write again gives the same value. -/
theorem reissuedModeOperationKeepsTheRegisters : Obligations.ReissuedModeOperationKeepsTheRegisters := by
  intro i s t u hi h h'
  rw [exec_eq_execAt] at h h'
  exact reissueKeeps_of_mem_modeOperations i hi s t u h h'

end Sys2Proof.Machine
end

section
/-! PROOFS. The statements of 44_data_ops.md. Each operation is one part (`exec_eq_plays`): data bytes in list order, for
CREATE_CHAR after a command byte, and that byte (`createCharCommand`) is all that depends on the slot. -/

namespace Sys2Proof.Machine

/-! ## The selectors of the data operations (R102) -/

/-- The rows of the selector table whose operations carry data, each for all operands and payloads. -/
theorem decode_dataOperations :
    (∀ a b p, decode (.operation (reqWord 0x10 a b) p) = .ok (.createChar a p)) ∧
    (∀ a b p, decode (.operation (reqWord 0x13 a b) p) = .ok (.writeChar a)) ∧
    ∀ a b p, decode (.operation (reqWord 0x14 a b) p) = .ok (.print p) := by
  obtain ⟨-, -, -, -, -, -, -, -, -, -, -, -, -, -, -, -, -, -, hoperands⟩ := selectorsNameTheOperations
  refine ⟨fun a b p => ?_, fun a b p => ?_, fun a b p => ?_⟩ <;>
    obtain ⟨-, hcreateChar, hwriteChar, hprint⟩ := hoperands a b p
  · exact hcreateChar
  · exact hwriteChar
  · exact hprint

/-! ## WRITE_CHAR and PRINT (R210, R212) -/

/-- Settles O22: the one part is DATA of the byte. -/
theorem writeCharSendsOneDataByte : Obligations.WriteCharSendsOneDataByte := by
  obtain ⟨-, hdecode, -⟩ := decode_dataOperations
  exact ⟨hdecode, fun s byte hw => exec_writeChar hw byte⟩

/-- Settles O23: the one part is the script of the list, which for the empty list plays nothing. -/
theorem printSendsItsBytesInOrder : Obligations.PrintSendsItsBytesInOrder := by
  obtain ⟨-, -, hdecode⟩ := decode_dataOperations
  exact ⟨hdecode, fun s text hw => ⟨exec_print hw text, exec_print hw []⟩⟩

/-! ## CREATE_CHAR (R216, R217) -/

/-- Settles O25: the one part is the address command, then the script of the rows. -/
theorem createCharSendsAddressThenRows : Obligations.CreateCharSendsAddressThenRows := by
  obtain ⟨hdecode, -, -⟩ := decode_dataOperations
  exact ⟨hdecode, fun s slot rows hw => exec_eq_plays nofun hw rfl⟩

theorem createCharCommand_eq_of_and_eq {slot slot' : Byte} (h : slot &&& 0x07 = slot' &&& 0x07) :
    createCharCommand slot = createCharCommand slot' := by
  rw [createCharCommand, h, createCharCommand]

/-- Settles O26: the parts of CREATE_CHAR depend on the slot by the address command only, and the guard of the configuration
does not read it. -/
theorem createCharMasksTheSlot : Obligations.CreateCharMasksTheSlot := by
  intro s slot slot' rows h
  have hparts : operationParts (.createChar slot rows) s = operationParts (.createChar slot' rows) s := by
    rw [operationParts, createCharCommand_eq_of_and_eq h, operationParts]
  have hexec (k : Byte) : exec (.createChar k rows) s =
      guardConfiguration s (.next (s.playParts (operationParts (.createChar k rows) s))) :=
    (exec_eq_execAt _ s).trans (execAt_of_ne_start (i := .createChar k rows) nofun s)
  rw [hexec, hexec, hparts]

end Sys2Proof.Machine
end

section
/-! PROOFS. The statements of 60_exceptions.md. Where a script ends is read off its events (`EndsAtFailure`) and off the coming
answers: it runs to its end exactly when its writes all succeed (`State.play_eq_none_iff`), and then adds its `okEvents`, which
are counted block by block. -/

namespace Sys2Proof.Machine

variable {E : Type}

/-! ## The failed writes of an instruction (R235) -/

/-- The events end as a procedure does: without a failed write, or in the one write that failed, with its error. -/
def EndsAtFailure (addr : BusAddress) (evs : List (Event E)) : Option E → Prop
  | none => failures evs = []
  | some e => ∃ before d, evs = before ++ [.write addr d (.fail e)] ∧ failures before = []

/-- An event that is no failed write may come before. -/
theorem EndsAtFailure.cons {addr : BusAddress} {evs : List (Event E)} {o : Option E} {x : Event E}
    (h : EndsAtFailure addr evs o) (hx : failures [x] = []) : EndsAtFailure addr (x :: evs) o := by
  have hcons (es : List (Event E)) : failures (x :: es) = failures es := by
    rw [← List.singleton_append, failures_append, hx, List.nil_append]
  cases o with
  | none => exact (hcons evs).trans h
  | some e =>
    obtain ⟨before, d, rfl, hbefore⟩ := h
    exact ⟨x :: before, d, rfl, (hcons before).trans hbefore⟩

theorem EndsAtFailure.failures_eq {addr : BusAddress} {evs : List (Event E)} {o : Option E}
    (h : EndsAtFailure addr evs o) : failures evs = o.toList := by
  cases o with
  | none => exact h
  | some e =>
    obtain ⟨before, d, rfl, hbefore⟩ := h
    rw [failures_append, hbefore]
    rfl

theorem State.play_endsAtFailure (script : List Act) (s : State.Over E) :
    ∃ evs, (s.play script).1.trace = s.trace ++ evs ∧ EndsAtFailure s.cfg.addr evs (s.play script).2 := by
  induction script generalizing s with
  | nil => exact ⟨[], (List.append_nil _).symm, rfl⟩
  | cons a as ih =>
    cases a with
    | put d =>
      simp only [State.Over.play]
      cases s.nextAnswer with
      | ok =>
        obtain ⟨evs, htrace, h⟩ := ih (s.recordWrite d .ok)
        exact ⟨.write s.cfg.addr d .ok :: evs, by simpa using htrace, h.cons rfl⟩
      | fail e => exact ⟨[.write s.cfg.addr d (.fail e)], rfl, [], d, rfl, rfl⟩
    | wait t =>
      obtain ⟨evs, htrace, h⟩ := ih (s.recordDelay t)
      exact ⟨.delay t :: evs, by simpa [State.Over.play] using htrace, h.cons rfl⟩
    | setPhase p => exact ih (s.setPhase p)
    | setFunc v => exact ih (s.setFunc v)
    | setDctl v => exact ih (s.setDctl v)
    | setEmode v => exact ih (s.setEmode v)
    | setBl v => exact ih (s.setBl v)

/-- Each part adds to the response the errors of its failed writes (R156). -/
theorem State.foldl_playPart_failures (parts : List (List Act)) (s : State.Over E) :
    ∃ evs, (parts.foldl State.Over.playPart s).trace = s.trace ++ evs ∧
      (parts.foldl State.Over.playPart s).errs = s.errs ++ failures evs := by
  induction parts generalizing s with
  | nil => exact ⟨[], (List.append_nil _).symm, (List.append_nil _).symm⟩
  | cons part parts ih =>
    obtain ⟨evs, htrace, hend⟩ := State.play_endsAtFailure part s
    obtain ⟨evs', htrace', herrs'⟩ := ih (s.playPart part)
    refine ⟨evs ++ evs', ?_, ?_⟩
    · rw [List.foldl_cons, htrace', ← List.append_assoc, ← htrace]
      rfl
    · rw [List.foldl_cons, herrs', State.playPart_errs, failures_append, hend.failures_eq, List.append_assoc]

/-- Settles O41: STOP collects the failures of its parts; any other instruction is one part, which ends as its script does. -/
theorem theFirstFailureEndsTheOperation : Obligations.TheFirstFailureEndsTheOperation := by
  intro i s t h
  obtain ⟨-, -, rfl⟩ := execAt_next (exec_eq_execAt i s ▸ h)
  by_cases hi : i = .stop
  · obtain ⟨evs, htrace, herrs⟩ := State.foldl_playPart_failures (operationParts i s) (s.setErrs [])
    exact ⟨evs, htrace, herrs, fun hne => absurd hi hne⟩
  · obtain ⟨script, hscript⟩ := operationParts_eq_singleton hi s
    rw [hscript, State.playParts_singleton]
    obtain ⟨evs, htrace, hend⟩ := State.play_endsAtFailure script s
    refine ⟨evs, htrace, hend.failures_eq.symm, fun _ => ?_⟩
    cases hplay : (s.play script).2 with
    | none => rw [hplay] at hend; exact .inl hend
    | some e =>
      rw [hplay] at hend
      obtain ⟨before, d, hevs, hbefore⟩ := hend
      exact .inr ⟨before, d, e, hevs, hbefore⟩

/-! ## When an instruction succeeds (R232, R233) -/

theorem State.play_eq_none_iff (script : List Act) (s : State.Over E) :
    (s.play script).2 = none ↔ s.succeeds (putCount script) := by
  refine ⟨fun h => ?_, fun h => (State.play_of_succeeds h).1⟩
  induction script generalizing s with
  | nil => exact nofun
  | cons a as ih =>
    cases a with
    | put d =>
      simp only [State.Over.play] at h
      cases hn : s.nextAnswer with
      | ok =>
        rw [hn] at h
        rintro (_ | k) hk
        · exact (State.answerAt_zero s).trans hn
        · exact (State.recordWrite_answerAt s d .ok k).symm.trans (ih _ h k (Nat.lt_of_succ_lt_succ hk))
      | fail e => rw [hn] at h; cases h
    | wait t => exact ih (s.recordDelay t) h
    | setPhase p => exact ih (s.setPhase p) h
    | setFunc v => exact ih (s.setFunc v) h
    | setDctl v => exact ih (s.setDctl v) h
    | setEmode v => exact ih (s.setEmode v) h
    | setBl v => exact ih (s.setBl v) h

/-- The converse of `State.foldl_playPart_of_errs_nil`: parts that run through as one script return no error. -/
theorem State.foldl_playPart_errs_of_play_flatten {parts : List (List Act)} {s : State.Over E}
    (h : (s.play parts.flatten).2 = none) : (parts.foldl State.Over.playPart s).errs = s.errs := by
  induction parts generalizing s with
  | nil => rfl
  | cons part parts ih =>
    rw [List.flatten_cons, State.play_append] at h
    cases hpart : (s.play part).2 with
    | some e => rw [hpart] at h; cases h
    | none =>
      rw [hpart] at h
      have hrest : ((s.playPart part).play parts.flatten).2 = none := by
        rw [State.Over.playPart, State.setErrs_play]
        exact h
      rw [List.foldl_cons, ih hrest, State.playPart_errs, hpart]
      exact List.append_nil s.errs

theorem putCount_flatten (parts : List (List Act)) : putCount parts.flatten = (parts.map putCount).sum := by
  induction parts with
  | nil => rfl
  | cons part parts ih => rw [List.flatten_cons, putCount_append, ih, List.map_cons, List.sum_cons]

/-- The parts of an instruction, in a row, have as many writes as R233 counts. -/
theorem putCount_flatten_operationParts (i : Instr) (s : State.Over E) :
    putCount (operationParts i s).flatten = writeCount i :=
  (putCount_flatten _).trans (putCount_operationParts i s)

/-! ## The writes and the delays of a run without a failure (R130, R233, R281) -/

theorem length_writtenBytes_okEvents (addr : BusAddress) (script : List Act) :
    (writtenBytes (okEvents (E := E) addr script)).length = putCount script := by
  induction script with
  | nil => rfl
  | cons a as ih =>
    cases a with
    | put d => exact congrArg (· + 1) ih
    | _ => exact ih

section Sums

variable (addr : BusAddress) (bl : Byte)

/-- Two pulses of T_PULSE and T_SETTLE (R130). -/
theorem minimumNs_scriptSend (v rs : Byte) : minimumNs (okEvents (E := E) addr (scriptSend bl v rs)) = 74900 := by
  simp only [scriptSend, okEvents, minimumNs, Delay.minNs]

theorem minimumNs_scriptDataList (cs : List Byte) :
    minimumNs (okEvents (E := E) addr (scriptDataList bl cs)) = 74900 * cs.length := by
  induction cs with
  | nil => rfl
  | cons c cs ih =>
    rw [scriptDataList, List.flatMap_cons, okEvents_append, minimumNs_append, ← scriptDataList, ih, scriptData,
      minimumNs_scriptSend, List.length_cons]
    omega

end Sums

theorem minimumNs_operationParts (addr : BusAddress) (i : Instr) (s : State.Over E) :
    minimumNs (okEvents (E := E) addr (operationParts i s).flatten) = delaySum i := by
  cases i with
  | print text => rw [operationParts, List.flatten_singleton, minimumNs_scriptDataList, delaySum]
  | createChar slot rows =>
    rw [operationParts, List.flatten_singleton, okEvents_append, minimumNs_append, scriptCommand, minimumNs_scriptSend,
      minimumNs_scriptDataList, delaySum]
    omega
  | start =>
    simp [operationParts, scriptStart, scriptPulse, scriptDctl, scriptEmode, scriptCommand, okEvents, okEvents_append,
      minimumNs, minimumNs_scriptSend, Delay.minNs, delaySum]
  | _ =>
    simp [operationParts, scriptDctl, scriptEmode, scriptCommand, scriptData, okEvents, okEvents_append, minimumNs,
      minimumNs_scriptSend, Delay.minNs, delaySum]

/-- Settles O45: without an error the parts were played as one script to its end, and a script ends so exactly when its writes
all succeed. -/
theorem writesAndDelaysAreAsTabled : Obligations.WritesAndDelaysAreAsTabled := by
  refine ⟨fun i s t h ht => ?_, fun i s hw hstart hok => ?_⟩
  · obtain ⟨-, -, rfl⟩ := execAt_next (exec_eq_execAt i s ▸ h)
    have hplay := State.play_flatten_of_errs_nil ht
    have hok := (State.play_eq_none_iff _ _).mp (congrArg Prod.snd hplay)
    obtain ⟨-, htrace⟩ := State.play_of_succeeds hok
    rw [hplay] at htrace
    exact ⟨_, htrace, (length_writtenBytes_okEvents _ _).trans (putCount_flatten_operationParts i s),
      minimumNs_operationParts _ i s⟩
  · refine ⟨_, (exec_eq_execAt i s).trans (execAt_of_admitted hw hstart),
      State.foldl_playPart_errs_of_play_flatten (s := s.setErrs []) ((State.play_eq_none_iff _ _).mpr ?_)⟩
    rw [putCount_flatten_operationParts]
    exact hok

end Sys2Proof.Machine
end

section
/-! PROOFS. The statements of 70_reset_and_hazards.md. Pulses are completed block by block: a pulse played to its first failure
leaves events that complete it whatever comes after them (`Completes`), and so does any script whose bytes all have enable low.
An operation's parts are built from these two kinds of block. -/

namespace Sys2Proof.Machine

variable {E : Type}

/-! ## The minimum delays (R280) -/

/-- Settles O46: the entries of `Delay.minNs`. -/
theorem delayMinimumsAreAsTabled : Obligations.DelayMinimumsAreAsTabled :=
  ⟨rfl, rfl, rfl, rfl, rfl, rfl, rfl, rfl⟩

/-! ## Events that complete their pulses (R270, R271) -/

/-- The events complete every pulse that they start, whatever comes after them. -/
def Completes (evs : List (Event E)) : Prop :=
  ∀ after, pulsesTimed after = true → pulsesTimed (evs ++ after) = true

theorem Completes.append {evs evs' : List (Event E)} (h : Completes evs) (h' : Completes evs') :
    Completes (evs ++ evs') := by
  intro after hafter
  rw [List.append_assoc]
  exact h _ (h' after hafter)

theorem Completes.pulsesTimed {evs : List (Event E)} (h : Completes evs) : pulsesTimed evs = true := by
  simpa using h [] rfl

/-- Events that write no enable-high byte start no pulse. -/
theorem completes_of_enable_low {evs : List (Event E)} (h : ∀ d ∈ writtenBytes evs, d &&& EN = 0x00) :
    Completes evs := by
  intro after hafter
  induction evs with
  | nil => exact hafter
  | cons ev evs ih =>
    cases ev with
    | delay t => exact ih h
    | write addr d a =>
      obtain ⟨hd, hrest⟩ := List.forall_mem_cons.mp h
      cases a with
      | ok => simp [pulsesTimed, hd, ih hrest]
      | fail e => exact ih hrest

section Pulse

variable {d low : Byte} (addr : BusAddress) (hlow : low = d &&& ~~~EN)
include hlow

theorem completes_pulse : Completes (E := E)
    [.write addr d .ok, .delay .tPulse, .write addr low .ok, .delay .tSettle] := by
  intro after hafter
  have hoff : low &&& EN = 0x00 := by rw [hlow, BitVec.and_assoc]; exact BitVec.and_zero
  simp [pulsesTimed, completesPulse, hoff, ← hlow, hafter]

/-- R123, R236 (a): after a failed enable-low write the pulse asks for nothing more. -/
theorem completes_failed_pulse (e : E) :
    Completes [.write addr d .ok, .delay .tPulse, .write addr low (.fail e)] := by
  intro after hafter
  cases after <;> simp [pulsesTimed, completesPulse, ← hlow, hafter]

end Pulse

/-! ## Scripts that complete their pulses (R122) -/

/-- Wherever a failure ends the script, what it has added to the trace completes its pulses. -/
def TimesPulses (E : Type) (script : List Act) : Prop :=
  ∀ s : State.Over E, ∃ evs, (s.play script).1.trace = s.trace ++ evs ∧ Completes evs

theorem TimesPulses.append {xs ys : List Act} (hx : TimesPulses E xs) (hy : TimesPulses E ys) :
    TimesPulses E (xs ++ ys) := by
  intro s
  obtain ⟨evs, htrace, hevs⟩ := hx s
  rw [State.play_append]
  cases (s.play xs).2 with
  | some e => exact ⟨evs, htrace, hevs⟩
  | none =>
    obtain ⟨evs', htrace', hevs'⟩ := hy (s.play xs).1
    exact ⟨evs ++ evs', by rw [← List.append_assoc, ← htrace]; exact htrace', hevs.append hevs'⟩

theorem timesPulses_of_enable_low {script : List Act} (h : ∀ d ∈ putBytes script, d &&& EN = 0x00) :
    TimesPulses E script := by
  intro s
  obtain ⟨evs, hevs⟩ := writes_play script s
  exact ⟨evs, hevs.trace, completes_of_enable_low fun d hd => h d (hevs.among.subset hd)⟩

/-- The two bytes of a pulse differ in the enable bit only. -/
theorem or_enable_or_and_not {v bl : Byte} (hv : v &&& EN = 0x00) (hbl : bl &&& EN = 0x00) :
    v ||| bl = (v ||| EN ||| bl) &&& ~~~EN := by
  have hclear : ∀ x : Byte, x &&& EN = 0x00 → x &&& ~~~EN = x := by decide
  rw [BitVec.and_or_distrib_right, BitVec.and_or_distrib_right, hclear v hv, hclear bl hbl]
  exact congrArg (· ||| bl) BitVec.or_zero.symm

section Blocks

variable {bl : Byte} (hbl : bl &&& EN = 0x00)
include hbl

/-- R122: the four events of a pulse, up to the first write that fails. -/
theorem timesPulses_scriptPulse {v : Byte} (hv : v &&& EN = 0x00) : TimesPulses E (scriptPulse bl v) := by
  intro s
  have hlow := or_enable_or_and_not hv hbl
  simp only [scriptPulse, State.Over.play]
  cases s.nextAnswer with
  | fail e => exact ⟨[.write s.cfg.addr (v ||| EN ||| bl) (.fail e)], rfl, fun _ hafter => hafter⟩
  | ok =>
    dsimp only
    cases ((s.recordWrite (v ||| EN ||| bl) .ok).recordDelay .tPulse).nextAnswer with
    | ok => exact ⟨_, by simp, completes_pulse s.cfg.addr hlow⟩
    | fail e => exact ⟨_, by simp, completes_failed_pulse s.cfg.addr hlow e⟩

theorem timesPulses_scriptSend (v : Byte) {rs : Byte} (hrs : rs &&& EN = 0x00) :
    TimesPulses E (scriptSend bl v rs) := by
  have hnibble (u : Byte) : ((u &&& 0xF0) ||| rs) &&& EN = 0x00 :=
    or_and_eq_zero.mpr ⟨by rw [BitVec.and_assoc]; exact BitVec.and_zero, hrs⟩
  exact (timesPulses_scriptPulse hbl (hnibble v)).append (timesPulses_scriptPulse hbl (hnibble (v <<< 4)))

theorem timesPulses_scriptCommand (c : Byte) : TimesPulses E (scriptCommand bl c) :=
  timesPulses_scriptSend hbl c (by decide)

/-- A command byte and a delay after it. -/
theorem timesPulses_scriptCommand_wait (c : Byte) (t : Delay) : TimesPulses E (scriptCommand bl c ++ [.wait t]) :=
  (timesPulses_scriptCommand hbl c).append (timesPulses_of_enable_low nofun)

theorem timesPulses_scriptData (c : Byte) : TimesPulses E (scriptData bl c) :=
  timesPulses_scriptSend hbl c (by decide)

theorem timesPulses_scriptDataList (cs : List Byte) : TimesPulses E (scriptDataList bl cs) := by
  induction cs with
  | nil => exact timesPulses_of_enable_low nofun
  | cons c cs ih => exact (timesPulses_scriptData hbl c).append ih

theorem timesPulses_scriptDctl (v : Byte) : TimesPulses E (scriptDctl bl v) :=
  (timesPulses_of_enable_low (script := [.setDctl v]) nofun).append (timesPulses_scriptCommand hbl (0x08 ||| v))

theorem timesPulses_scriptEmode (v : Byte) : TimesPulses E (scriptEmode bl v) :=
  (timesPulses_of_enable_low (script := [.setEmode v]) nofun).append (timesPulses_scriptCommand hbl (0x04 ||| v))

/-- A backlight operation's one byte (R193) starts no pulse. -/
theorem timesPulses_backlight : TimesPulses E [.setBl bl, .put bl] :=
  timesPulses_of_enable_low (List.forall_mem_singleton.mpr hbl)

/-- The idle byte (R143) starts no pulse; each nibble (R144, R145) is one, and its extra delay comes after it. -/
theorem timesPulses_startOpening : TimesPulses E (startOpening bl) := by
  have hidle : TimesPulses E [.setPhase .initializing, .wait .tPower, .put bl, .wait .tIdle] :=
    timesPulses_of_enable_low (List.forall_mem_singleton.mpr hbl)
  have h3 : TimesPulses E (scriptPulse bl 0x30) := timesPulses_scriptPulse hbl (by decide)
  have h2 : TimesPulses E (scriptPulse bl 0x20) := timesPulses_scriptPulse hbl (by decide)
  have hwait (t : Delay) : TimesPulses E [.wait t] := timesPulses_of_enable_low nofun
  exact ((((((hidle.append h3).append (hwait _)).append h3).append (hwait _)).append h3).append (hwait _)).append h2

theorem timesPulses_startClosing (c : DisplayConfig) : TimesPulses E (startClosing c bl) :=
  (((((timesPulses_scriptCommand hbl _).append (timesPulses_scriptDctl hbl _)).append
    (timesPulses_scriptCommand_wait hbl _ _)).append (timesPulses_scriptEmode hbl _)).append
    (timesPulses_scriptCommand_wait hbl _ _)).append (timesPulses_of_enable_low nofun)

theorem timesPulses_scriptStart (c : DisplayConfig) : TimesPulses E (scriptStart c bl) := by
  have hfunc : TimesPulses E [.setFunc (functionFlags c)] := timesPulses_of_enable_low nofun
  rw [scriptStart_eq]
  exact (timesPulses_startOpening hbl).append (hfunc.append (timesPulses_startClosing hbl c))

end Blocks

/-! ## Operations (R271) -/

theorem timesPulses_operationParts {i : Instr} {s : State.Over E} (hi : i.isOperation = true)
    (hbl : s.bl &&& EN = 0x00) : ∀ part ∈ operationParts i s, TimesPulses E part := by
  have hone {script : List Act} (h : TimesPulses E script) : ∀ part ∈ [script], TimesPulses E part :=
    List.forall_mem_singleton.mpr h
  have hdark : (0x00 : Byte) &&& EN = 0x00 := by decide
  cases i with
  | start => exact hone (timesPulses_scriptStart hbl s.cfg)
  | stop =>
    simp only [operationParts, List.forall_mem_cons]
    exact ⟨timesPulses_scriptCommand_wait hbl _ _, timesPulses_backlight hdark, timesPulses_scriptDctl hdark _,
      timesPulses_scriptDctl hdark _, nofun⟩
  | clear | home => exact hone (timesPulses_scriptCommand_wait hbl _ _)
  | setCursor | scrollLeft | scrollRight => exact hone (timesPulses_scriptCommand hbl _)
  | displayOn | displayOff | cursorOn | cursorOff | blinkOn | blinkOff => exact hone (timesPulses_scriptDctl hbl _)
  | leftToRight | rightToLeft | autoscrollOn | autoscrollOff => exact hone (timesPulses_scriptEmode hbl _)
  | backlightOn => exact hone (timesPulses_backlight (by decide))
  | backlightOff => exact hone (timesPulses_backlight hdark)
  | writeChar byte => exact hone (timesPulses_scriptData hbl byte)
  | print text => exact hone (timesPulses_scriptDataList hbl text)
  | createChar slot rows =>
    exact hone ((timesPulses_scriptCommand hbl (createCharCommand slot)).append (timesPulses_scriptDataList hbl rows))
  | _ => cases hi

/-- Each part completes its pulses, whether the part before it failed or not (R156). -/
theorem completes_foldl_playPart {parts : List (List Act)} (h : ∀ part ∈ parts, TimesPulses E part) (s : State.Over E) :
    ∃ evs, (parts.foldl State.Over.playPart s).trace = s.trace ++ evs ∧ Completes evs := by
  induction parts generalizing s with
  | nil => exact ⟨[], (List.append_nil _).symm, fun _ hafter => hafter⟩
  | cons part parts ih =>
    obtain ⟨hpart, hparts⟩ := List.forall_mem_cons.mp h
    obtain ⟨evs, htrace, hevs⟩ := hpart s
    obtain ⟨evs', htrace', hevs'⟩ := ih hparts (s.playPart part)
    exact ⟨evs ++ evs', by rw [← List.append_assoc, ← htrace]; exact htrace', hevs.append hevs'⟩

/-- Settles O44: an operation plays its parts, and in a legal state BL leaves the enable bit of every byte alone. -/
theorem enablePulsesAreTimed : Obligations.EnablePulsesAreTimed := by
  intro i s t hi hs h
  obtain ⟨-, -, -, -, hbl⟩ := hs
  have hlow : s.bl &&& EN = 0x00 := by obtain hb | hb := hbl <;> rw [hb] <;> rfl
  obtain ⟨-, -, rfl⟩ := execAt_next (exec_eq_execAt i s ▸ h)
  obtain ⟨evs, htrace, hevs⟩ := completes_foldl_playPart (timesPulses_operationParts hi hlow) (s.setErrs [])
  exact ⟨evs, htrace, hevs.pulsesTimed⟩

end Sys2Proof.Machine
end
